-- ==== Sys2Proof/Word.lean ====
section
/-! DEFINITION. The machine words of the timer block and their plainest arithmetic (00_scope.md R9, R11). -/

namespace Sys2Proof

/-- `u32`: a register of a counter, an operand, the result of a register read (R9, R53). -/
abbrev Word := BitVec 32

/-- `u8`: the operation selector of a request (30_encoding.md R70). -/
abbrev Code := BitVec 8

/-- `u64`: a host clock sample, in host ticks, and the emulated cycle total (R11, R36). -/
abbrev HostTicks := BitVec 64

/-- Elapsed time in milliseconds, an exact rational (R11; 92_eei_decisions.md D4). -/
abbrev Millis := Rat

end Sys2Proof
end

