-- ==== Sys2Proof/Syntax.lean ====
section
/-! DEFINITION. The syntax of operations: counter indices, requests as they cross the interface (30_encoding.md R70), the decoded
operations (R73, R74), the CPU's register operations (43_system.md R177) and the pseudo-operations (R79). -/

namespace Sys2Proof

/-- The index of a counter instance, 0, 1 or 2 (10_state.md R20); written `c0`, `c1`, `c2` in the assembler text (R78). -/
inductive CounterId where
  | c0
  | c1
  | c2
deriving DecidableEq, Repr

/-- The number of a counter instance (10_state.md R20). -/
def CounterId.index : CounterId → Nat
  | .c0 => 0
  | .c1 => 1
  | .c2 => 2

/-- One value for each counter instance (00_scope.md R7: the instances are alike). -/
structure PerCounter (α : Type) where
  c0 : α
  c1 : α
  c2 : α
deriving DecidableEq, Repr, Inhabited

/-- The same value for every counter instance. -/
def PerCounter.replicate {α : Type} (a : α) : PerCounter α :=
  { c0 := a, c1 := a, c2 := a }

/-- The registers of the register interface (20_memory.md R50). -/
inductive RegName where
  | counter
  | mode
  | target
deriving DecidableEq, Repr

/-- The width of the access a request presents. The block moves whole 32-bit values only; a bus could present a narrower one (R53). -/
inductive AccessWidth where
  | byte
  | half
  | word
deriving DecidableEq, Repr

/-- An operation request: the code, the operand where there is one (R70), and the access width the bus presents (R53). -/
structure Request where
  code : Code
  operand : Option Word
  width : AccessWidth
deriving DecidableEq, Repr

/-- The operations, one constructor for each row of the opcode table (R73, R74). -/
inductive Instr where
  /-- `READ_COUNTER c<n>` (42_rootcounter.md R140). -/
  | readCounter (n : CounterId)
  /-- `READ_MODE c<n>` (R141). -/
  | readMode (n : CounterId)
  /-- `WRITE_MODE c<n>, value` (R142). -/
  | writeMode (n : CounterId) (value : Word)
  /-- `READ_TARGET c<n>` (R143). -/
  | readTarget (n : CounterId)
  /-- `WRITE_TARGET c<n>, value` (R144). -/
  | writeTarget (n : CounterId) (value : Word)
  /-- `TICK c<n>, cycles` (R145). -/
  | tick (n : CounterId) (cycles : Word)
  /-- `CLK_CALIBRATE` (40_cycleclock.md R100). -/
  | clkCalibrate
  /-- `CLK_READ` (R103). -/
  | clkRead
  /-- `SCHED_INIT` (41_scheduler.md R123). -/
  | schedInit
  /-- `SCHED_STEP` (R110). -/
  | schedStep
  /-- `SYS_INIT` (43_system.md R170). -/
  | sysInit
  /-- `SYS_RUN` (R171). -/
  | sysRun
  /-- `SYS_STOP` (R172). -/
  | sysStop
  /-- `SYS_STEP` issued by the host (R173). -/
  | sysStep
  /-- `SYS_DEINIT` (R174). -/
  | sysDeinit
  /-- `WRITE_COUNTER c<n>`, the refused write of the counter register (R152), with the operand presented, if any: its encoding is
  refused, whatever the operand (42_rootcounter.md R151). -/
  | writeCounter (n : CounterId) (operand : Option Word)
deriving DecidableEq, Repr

/-- What the CPU may issue during its step: the register operations of R140 to R144 and nothing else (R177). -/
inductive BusOp where
  | readCounter (n : CounterId)
  | readMode (n : CounterId)
  | writeMode (n : CounterId) (value : Word)
  | readTarget (n : CounterId)
  | writeTarget (n : CounterId) (value : Word)
deriving DecidableEq, Repr

/-- The pseudo-operations (30_encoding.md R79). -/
inductive Pseudo where
  | startFree (n : CounterId)
  | startTarget (n : CounterId) (target : Word)
  | haltCounter (n : CounterId)
  | ack (n : CounterId)
deriving DecidableEq, Repr

end Sys2Proof
end

