-- ==== Sys2Proof/WellFormed.lean ====
section
/-! DEFINITION. Which requests the spec gives an operation (30_encoding.md R70, R73 to R76; 20_memory.md R53), written from the
opcode table's lists of codes and not from the decoder; and which operations are legal. An `Instr` is well-formed by its type: a
counter index other than 0, 1, 2 cannot be written. -/

namespace Sys2Proof

/-- The codes of the register reads, of the CLK, SCHED and SYS operations: no operand (R70). -/
def plainCodes : List Code :=
  [0x00, 0x01, 0x02, 0x10, 0x11, 0x12, 0x20, 0x21, 0x22, 0x84, 0x88, 0x8C, 0x90, 0x94, 0x98, 0x9C, 0xA0, 0xA4]

/-- The codes of WRITE_MODE, WRITE_TARGET and TICK: a `u32` operand (R70). -/
def operandCodes : List Code :=
  [0x50, 0x51, 0x52, 0x60, 0x61, 0x62, 0x80, 0x81, 0x82]

/-- The codes `0x40 + n` of the refused WRITE_COUNTER (R152). -/
def counterWriteCodes : List Code :=
  [0x40, 0x41, 0x42]

/-- The 27 codes of the fifteen legal operations (R76). -/
def legalCodes : List Code :=
  plainCodes ++ operandCodes

/-- The operand is present exactly where the operation takes one (R70); a counter write is recognised by its code alone (R151, R152). -/
def Request.operandFits (r : Request) : Bool :=
  if r.code ∈ plainCodes then r.operand.isNone
  else decide (r.code ∈ counterWriteCodes) || r.operand.isSome

/-- A register access presents a whole word (R53); the width of a port request (assumption log 5) and of a counter write (assumption
log 22) is not consulted. -/
def Request.widthFits (r : Request) : Bool :=
  r.code.getLsbD 7 || decide (r.code ∈ counterWriteCodes) || r.width == .word

/-- A request the opcode table has a row for. -/
def Request.WellFormed (r : Request) : Bool :=
  decide (r.code ∈ legalCodes ++ counterWriteCodes) && r.widthFits && r.operandFits

/-- The fifteen legal operations: every row but WRITE_COUNTER (R76, R152). -/
def Instr.legal : Instr → Bool
  | .writeCounter _ _ => false
  | .readCounter _ | .readMode _ | .writeMode _ _ | .readTarget _ | .writeTarget _ _ | .tick _ _ => true
  | .clkCalibrate | .clkRead | .schedInit | .schedStep => true
  | .sysInit | .sysRun | .sysStop | .sysStep | .sysDeinit => true

/-- The operations of a counter, which need the System to be initialized (42_rootcounter.md R153), with the counter's index. -/
def Instr.counterOperation : Instr → Option CounterId
  | .readCounter n | .readMode n | .writeMode n _ | .readTarget n | .writeTarget n _ | .tick n _ => some n
  | .writeCounter _ _ => none
  | .clkCalibrate | .clkRead | .schedInit | .schedStep => none
  | .sysInit | .sysRun | .sysStop | .sysStep | .sysDeinit => none

end Sys2Proof
end

