-- ==== Sys2Proof/Decode.lean ====
section
/-! DEFINITION. Decoding of requests (30_encoding.md R71 to R77), total and rejecting by name, and the encoder written from the same
tables. The opcode table's word form of a request (bits 7:0 the code, bits 39:8 the operand) is here too. -/

namespace Sys2Proof

/-- Why a request has no operation. -/
inductive DecodeError where
  /-- A reserved code (R75). -/
  | reservedEncoding
  /-- A register access narrower than a word (20_memory.md R53). -/
  | narrowAccess
  /-- An operand where a legal operation takes none, or none where it takes one (R70; assumption log 4). -/
  | malformedRequest
deriving DecidableEq, Repr

/-- What a code alone selects: an operation with its counter index, its operand still to come (R76). -/
inductive Opcode where
  | readCounter (n : CounterId)
  | readMode (n : CounterId)
  | writeMode (n : CounterId)
  | readTarget (n : CounterId)
  | writeTarget (n : CounterId)
  | writeCounter (n : CounterId)
  | tick (n : CounterId)
  | clkCalibrate
  | clkRead
  | schedInit
  | schedStep
  | sysInit
  | sysRun
  | sysStop
  | sysStep
  | sysDeinit
deriving DecidableEq, Repr

/-- The index field `n`, bits 1:0; 3 is reserved (R71, R72). -/
def decodeCounter (b : BitVec 2) : Option CounterId :=
  match b.toNat with
  | 0 => some .c0
  | 1 => some .c1
  | 2 => some .c2
  | _ => none

/-- The register field `r`, bits 5:4; 11 is reserved (R71). -/
def decodeReg (b : BitVec 2) : Option RegName :=
  match b.toNat with
  | 0 => some .counter
  | 1 => some .mode
  | 2 => some .target
  | _ => none

/-- The format B map (R73): the register and the `w` bit select the operation. -/
def registerOperation (isWrite : Bool) (reg : RegName) (n : CounterId) : Opcode :=
  match reg, isWrite with
  | .counter, false => .readCounter n
  | .counter, true => .writeCounter n
  | .mode, false => .readMode n
  | .mode, true => .writeMode n
  | .target, false => .readTarget n
  | .target, true => .writeTarget n

/-- Format B: `0 w rr 00 nn` (R71). -/
def decodeFormatB (c : Code) : Option Opcode :=
  if c.extractLsb' 2 2 = 0 then
    match decodeReg (c.extractLsb' 4 2), decodeCounter (c.extractLsb' 0 2) with
    | some reg, some n => some (registerOperation (c.getLsbD 6) reg n)
    | _, _ => none
  else none

/-- A port operation other than TICK: `nn` must be 00 (R72). -/
def portOperation (c : Code) (op : Opcode) : Option Opcode :=
  if c.extractLsb' 0 2 = 0 then some op else none

/-- TICK, with the counter index in bits 1:0 (R72). -/
def tickOperation (c : Code) : Option Opcode :=
  match decodeCounter (c.extractLsb' 0 2) with
  | some n => some (.tick n)
  | none => none

/-- Format P: `1 ooooo nn` (R72, R74). -/
def decodeFormatP (c : Code) : Option Opcode :=
  match (c.extractLsb' 2 5).toNat with
  | 0 => tickOperation c
  | 1 => portOperation c .clkCalibrate
  | 2 => portOperation c .clkRead
  | 3 => portOperation c .schedInit
  | 4 => portOperation c .schedStep
  | 5 => portOperation c .sysInit
  | 6 => portOperation c .sysRun
  | 7 => portOperation c .sysStop
  | 8 => portOperation c .sysStep
  | 9 => portOperation c .sysDeinit
  | _ => none

/-- Decoding of a code, total on every `u8`; none is the verdict Reserved (R76). Bit 7 selects the format (R71, R72). -/
def decodeCode (c : Code) : Option Opcode :=
  if c.getLsbD 7 then decodeFormatP c else decodeFormatB c

/-- The five accesses of the register interface (20_memory.md R51): the refused counter write is none of them. -/
def Opcode.registerAccess : Opcode → Bool
  | .readCounter _ | .readMode _ | .writeMode _ | .readTarget _ | .writeTarget _ => true
  | .writeCounter _ | .tick _ | .clkCalibrate | .clkRead | .schedInit | .schedStep => false
  | .sysInit | .sysRun | .sysStop | .sysStep | .sysDeinit => false

/-- A register access narrower than a word (20_memory.md R53). The width of a port request is not consulted: DESIGN CHOICE (assumption
log 5); nor that of a counter write, which 60_exceptions.md R202 refuses by its code: DEDUCED (assumption log 22). -/
def narrowRequest (op : Opcode) (width : AccessWidth) : Bool :=
  op.registerAccess && width != .word

/-- An operation without an operand (R70). -/
def takeNoOperand (operand : Option Word) (i : Instr) : Option Instr :=
  match operand with
  | none => some i
  | some _ => none

/-- The operation with its operand, which is passed on unchanged (R70, R77). A counter write keeps whatever operand is presented, or
none: 42_rootcounter.md R151 and R152 and 60_exceptions.md R202 refuse it by its code. -/
def attachOperand (op : Opcode) (operand : Option Word) : Option Instr :=
  match op with
  | .readCounter n => takeNoOperand operand (.readCounter n)
  | .readMode n => takeNoOperand operand (.readMode n)
  | .readTarget n => takeNoOperand operand (.readTarget n)
  | .writeMode n => operand.map (.writeMode n)
  | .writeTarget n => operand.map (.writeTarget n)
  | .writeCounter n => some (.writeCounter n operand)
  | .tick n => operand.map (.tick n)
  | .clkCalibrate => takeNoOperand operand .clkCalibrate
  | .clkRead => takeNoOperand operand .clkRead
  | .schedInit => takeNoOperand operand .schedInit
  | .schedStep => takeNoOperand operand .schedStep
  | .sysInit => takeNoOperand operand .sysInit
  | .sysRun => takeNoOperand operand .sysRun
  | .sysStop => takeNoOperand operand .sysStop
  | .sysStep => takeNoOperand operand .sysStep
  | .sysDeinit => takeNoOperand operand .sysDeinit

/-- Decoding of a request (R70, R76): the code, then the access width, then the operand. It precedes the operation, so its reasons win
over those the operation has in the state it meets, CounterNotConstructed (60_exceptions.md R202) among them: DESIGN CHOICE (assumption
log 23). -/
def decode (r : Request) : Except DecodeError Instr :=
  match decodeCode r.code with
  | none => .error .reservedEncoding
  | some op =>
    if narrowRequest op r.width then .error .narrowAccess
    else
      match attachOperand op r.operand with
      | some i => .ok i
      | none => .error .malformedRequest

/-! The encoder, from the same tables. -/

/-- The bits of the index field. -/
def encodeCounter : CounterId → BitVec 2
  | .c0 => 0
  | .c1 => 1
  | .c2 => 2

/-- The bits of the register field (R71). -/
def encodeReg : RegName → BitVec 2
  | .counter => 0
  | .mode => 1
  | .target => 2

/-- A format B code: `0 w rr 00 nn` (R71). -/
def codeB (w : BitVec 1) (reg : RegName) (n : CounterId) : Code :=
  0#1 ++ w ++ encodeReg reg ++ 0#2 ++ encodeCounter n

/-- A format P code: `1 ooooo nn` (R72). -/
def codeP (o : BitVec 5) (n : BitVec 2) : Code :=
  1#1 ++ o ++ n

/-- The operation without its operand. -/
def opcodeOf : Instr → Opcode
  | .readCounter n => .readCounter n
  | .readMode n => .readMode n
  | .writeMode n _ => .writeMode n
  | .readTarget n => .readTarget n
  | .writeTarget n _ => .writeTarget n
  | .writeCounter n _ => .writeCounter n
  | .tick n _ => .tick n
  | .clkCalibrate => .clkCalibrate
  | .clkRead => .clkRead
  | .schedInit => .schedInit
  | .schedStep => .schedStep
  | .sysInit => .sysInit
  | .sysRun => .sysRun
  | .sysStop => .sysStop
  | .sysStep => .sysStep
  | .sysDeinit => .sysDeinit

/-- The code of an operation (R73, R74). -/
def encodeCode : Opcode → Code
  | .readCounter n => codeB 0 .counter n
  | .readMode n => codeB 0 .mode n
  | .writeMode n => codeB 1 .mode n
  | .readTarget n => codeB 0 .target n
  | .writeTarget n => codeB 1 .target n
  | .writeCounter n => codeB 1 .counter n
  | .tick n => codeP 0 (encodeCounter n)
  | .clkCalibrate => codeP 1 0
  | .clkRead => codeP 2 0
  | .schedInit => codeP 3 0
  | .schedStep => codeP 4 0
  | .sysInit => codeP 5 0
  | .sysRun => codeP 6 0
  | .sysStop => codeP 7 0
  | .sysStep => codeP 8 0
  | .sysDeinit => codeP 9 0

/-- The operand of an operation, where it takes one (R70), and the one presented with a counter write. -/
def encodeOperand : Instr → Option Word
  | .writeMode _ v | .writeTarget _ v | .tick _ v => some v
  | .writeCounter _ operand => operand
  | .readCounter _ | .readMode _ | .readTarget _ => none
  | .clkCalibrate | .clkRead | .schedInit | .schedStep => none
  | .sysInit | .sysRun | .sysStop | .sysStep | .sysDeinit => none

/-- The request that issues an operation. -/
def encode (i : Instr) : Request :=
  { code := encodeCode (opcodeOf i), operand := encodeOperand i, width := .word }

/-! The opcode table's word form. -/

/-- Whether the opcode table gives a code's row an operand, from the fields of R71 and R72: a format B write, or TICK. -/
def codeTakesOperand (c : Code) : Bool :=
  if c.getLsbD 7 then c.extractLsb' 2 5 == 0 else c.getLsbD 6

/-- The request whose bits are `w`: bits 7:0 the code, bits 39:8 the operand, every bit from `nbits` on zero. DEDUCED: the spec lays
out the code only, and gives the pair no bytes (assumption log 1). -/
def requestOfTableWord (nbits w : Nat) : Request :=
  let bits := w % 2 ^ nbits
  let code : Code := BitVec.ofNat 8 bits
  { code := code
    operand := if codeTakesOperand code then some (BitVec.ofNat 32 (bits / 2 ^ 8)) else none
    width := .word }

/-- The operation the decoder reads from a table word; none where it refuses. -/
def decodeTableWord (nbits w : Nat) : Option Instr :=
  match decode (requestOfTableWord nbits w) with
  | .ok i => some i
  | .error _ => none

end Sys2Proof
end

