-- ==== Sys2Proof/Config.lean ====
section
/-! DEFINITION. The parameters of 00_scope.md R8: the fixed ones as numbers, the OPEN ones as a record whose value nothing in the
model knows, and the free value a host clock draw takes where the state lists no answer. -/

namespace Sys2Proof

/-- The OPEN parameters (R8). The State carries one of these, which no operation changes (assumption log 7). -/
structure Params where
  /-- `HOST_TICK_FREQUENCY`: host ticks per second, or none where the host has no high-resolution source (D5). -/
  hostTickFrequency : Option ℕ+
  /-- `MAX_STEPS_PER_CALL`: the cap of the drain loop, a positive integer (D7). -/
  maxStepsPerCall : ℕ+
  /-- `IRQ_LINE_OF_COUNTER`: the CPU interrupt line of each counter (D27). -/
  irqLineOfCounter : PerCounter Nat
deriving DecidableEq, Repr, Inhabited

/-- The parameters of the machine at reset: OPEN, so an opaque constant (assumption log 7). -/
opaque Config.params : Params

/-- What the host clock answers at the k-th draw where the state lists no answer: a free value (40_cycleclock.md R103;
assumption log 8). -/
opaque Config.hostClock : Nat → HostTicks

/-- `CPU_CLOCK_HZ` (R8; 41_scheduler.md R121). -/
def Config.cpuClockHz : Nat := 33868800

/-- `DT_MS = 1000 / CPU_CLOCK_HZ` (R8, R121). -/
def Config.dtMs : Millis := 1000 / Config.cpuClockHz

/-- `MAX_SPAN_MS` (R8, R112). -/
def Config.maxSpanMs : Millis := 250

/-- `RENDER_PERIOD_MS` (R8, R117). -/
def Config.renderPeriodMs : Millis := 16667 / 1000

/-- `FPS_WINDOW_MS` (R8, R118). -/
def Config.fpsWindowMs : Millis := 1000

/-- `STEP_CYCLES` (R8; 43_system.md R175). -/
def Config.stepCycles : Word := 1

/-- `INTREQ_PENDING`, the value of `intreq` that means pending (R8; 10_state.md R32). -/
def Config.intreqPending : Bool := true

end Sys2Proof
end

