-- ==== Sys2Proof/Machine/Flags.lean ====
section
/-! DEFINITION. The fields of the mode word (10_state.md R24 to R33) and every computation of a flag: the wrap limit and the wrap
result of TICK (42_rootcounter.md R147, R148) and the status bits the InterruptAdapter sets (60_exceptions.md R205 to R212). -/

namespace Sys2Proof.Machine

/-! Field extraction (R24). -/

/-- `en`, bit 0; 0 is Running and 1 is Stopped (R25). -/
def modeEn (m : Word) : Bool :=
  m.getLsbD 0

/-- `syncmode`, bits 2:1; nothing in the block reads it (R26). -/
def modeSyncmode (m : Word) : BitVec 2 :=
  m.extractLsb' 1 2

/-- `resetmode`, bit 3; 0 is Free-run and 1 is Target-reset (R27). -/
def modeResetmode (m : Word) : Bool :=
  m.getLsbD 3

/-- `irq_target`, bit 4 (R28). -/
def modeIrqTarget (m : Word) : Bool :=
  m.getLsbD 4

/-- `irq_0xffff`, bit 5 (R28). -/
def modeIrq0xffff (m : Word) : Bool :=
  m.getLsbD 5

/-- `irqrepeat`, bit 6; 0 is one-shot and 1 is repeat (R29). -/
def modeIrqrepeat (m : Word) : Bool :=
  m.getLsbD 6

/-- `irqpulse`, bit 7; 0 is pulse and 1 is toggle (R30). -/
def modeIrqpulse (m : Word) : Bool :=
  m.getLsbD 7

/-- `clcsrc`, bits 9:8; nothing in the block reads it (R31). -/
def modeClcsrc (m : Word) : BitVec 2 :=
  m.extractLsb' 8 2

/-- `intreq`, bit 10 (R32). -/
def modeIntreq (m : Word) : Bool :=
  m.getLsbD 10

/-- `reached_target`, bit 11 (R32). -/
def modeReachedTarget (m : Word) : Bool :=
  m.getLsbD 11

/-- `reached_0xffff`, bit 12 (R32). -/
def modeReached0xffff (m : Word) : Bool :=
  m.getLsbD 12

/-- The reserved bits 31:13, stored and returned verbatim (R33). -/
def modeReserved (m : Word) : BitVec 19 :=
  m.extractLsb' 13 19

/-- Running: a counter whose `en` bit is 0 (R25). -/
def modeRunning (m : Word) : Bool :=
  !modeEn m

/-! Field insertion, a read-modify-write of the whole word (R24). -/

/-- The word with one bit replaced. -/
def withBit (m : Word) (i : Nat) (b : Bool) : Word :=
  if b then m ||| (1#32 <<< i) else m &&& ~~~(1#32 <<< i)

/-- The word with `intreq` replaced. -/
def withIntreq (m : Word) (b : Bool) : Word :=
  withBit m 10 b

/-- The word with `reached_target` replaced. -/
def withReachedTarget (m : Word) (b : Bool) : Word :=
  withBit m 11 b

/-- The word with `reached_0xffff` replaced. -/
def withReached0xffff (m : Word) (b : Bool) : Word :=
  withBit m 12 b

/-- The mask of ACK, which clears the status bits 12:10 (30_encoding.md R79). -/
def ackMask : Word :=
  0xFFFFE3FF#32

/-! The wrap of TICK. -/

/-- The wrap limit: the target in Target-reset, 0xFFFF in Free-run (42_rootcounter.md R147). -/
def wrapLimit (mode target : Word) : Nat :=
  if modeResetmode mode then target.toNat else 0xFFFF

/-! The flags of the InterruptAdapter (60_exceptions.md R205). -/

/-- A wrap with `resetmode == 1` is a target event, otherwise a 0xFFFF event (R207). -/
def wrapIsTargetEvent (m : Word) : Bool :=
  modeResetmode m

/-- Whether a wrap is IRQ-worthy (R207). -/
def wrapWorthy (m : Word) : Bool :=
  if wrapIsTargetEvent m then modeIrqTarget m else modeIrq0xffff m

/-- Whether a wrap asserts an interrupt: IRQ-worthy, and repeating or not fired yet (R208). -/
def wrapAsserts (m : Word) (oneshotFired : Bool) : Bool :=
  wrapWorthy m && (modeIrqrepeat m || !oneshotFired)

/-- The status latch a wrap sets, whether or not it asserts (R212). -/
def latchReached (m : Word) : Word :=
  if wrapIsTargetEvent m then withReachedTarget m true else withReached0xffff m true

/-- The mode word the adapter writes back: the latch, and `intreq` on an assertion (R205, R212). -/
def adapterMode (m : Word) (oneshotFired : Bool) : Word :=
  if wrapAsserts m oneshotFired then withIntreq (latchReached m) Config.intreqPending else latchReached m

end Sys2Proof.Machine
end

