-- ==== Sys2Proof/Machine/Operands.lean ====
section
/-! DEFINITION. Operand assembly (30_encoding.md R77): the only operand forms are a `u32` stored unchanged (WRITE_MODE), masked to 16
bits (WRITE_TARGET), and zero-extended to a natural number (TICK). Nothing is sign-extended, scaled or shifted, and there is no
addressing mode: the selector names a whole register (20_memory.md R54). -/

namespace Sys2Proof.Machine

/-- The operand of WRITE_MODE: all 32 bits, verbatim (R142). -/
def modeOperand (value : Word) : Word :=
  value

/-- The operand of WRITE_TARGET: `value & 0x0000FFFF` (R144). -/
def targetOperand (value : Word) : Word :=
  value &&& 0x0000FFFF#32

/-- Zero-extension of a `u32` to a natural number (R148). -/
def zext (v : Word) : Nat :=
  v.toNat

/-- The sum of TICK, an unbounded natural number: no 32-bit truncation (R148; 92_eei_decisions.md D3). -/
def tickSum (counter cycles : Word) : Nat :=
  zext counter + zext cycles

end Sys2Proof.Machine
end

