-- ==== Sys2Proof/Machine/State.lean ====
section
/-! DEFINITION. The state of the block (10_state.md), as plain data, with the reasons a step can stop (60_exceptions.md R200, R202)
and the state at the start of a run (70_reset_and_hazards.md R230 to R235). The block has no memory and no program counter
(20_memory.md R52; 10_state.md R44). -/

namespace Sys2Proof.Machine

/-- The three registers of a counter instance (R20). -/
structure RootCounter where
  /-- 32 bits of storage, at most 0xFFFE (R21). -/
  counter : Word
  /-- 32 bits of storage, the upper 16 always 0 (R22). -/
  target : Word
  /-- The mode word, every bit of it storage (R23, R24). -/
  mode : Word
deriving DecidableEq, Repr

/-- The host time source (R35). -/
structure CycleClock where
  calibrated : Bool
  /-- Milliseconds per host tick. -/
  resolution : Millis
  /-- The last value the host clock returned. -/
  lastSample : HostTicks
deriving DecidableEq, Repr

/-- The Scheduler (R36). -/
structure Scheduler where
  started : Bool
  /-- The sample of the previous call. -/
  previous : HostTicks
  /-- The sample of the current call. -/
  current : HostTicks
  /-- Emulated cycles stepped, modulo 2^64. -/
  totalCycles : HostTicks
  /-- Unconsumed elapsed time. -/
  spanAccumulator : Millis
  renderTimeSpan : Millis
  fpsTimeSpan : Millis
  /-- Renders in the current FPS window. -/
  fpsCounter : Nat
  /-- The last published FPS value. -/
  fpsValue : Nat
deriving DecidableEq, Repr

/-- The System facade (R39); of the opaque CPU and GPU handles the model keeps whether they are held (assumption log 15). -/
structure SystemFacade where
  initialized : Bool
  running : Bool
  cpuHandle : Bool
  gpuHandle : Bool
deriving DecidableEq, Repr

/-- The memory of the InterruptAdapter (R40). -/
structure InterruptAdapter where
  /-- An interrupt was asserted since the last bus WRITE_MODE of the counter. -/
  oneshotFired : PerCounter Bool
  /-- The level of the toggled interrupt line. -/
  lineLevel : PerCounter Bool
deriving DecidableEq, Repr

/-- The events of the output trace (R41). -/
inductive Event where
  /-- The render callback was invoked. -/
  | render
  /-- The status sink received a string. -/
  | status (text : String)
  /-- The interrupt line of a counter was pulsed for one emulated cycle. -/
  | irqPulse (n : CounterId)
  /-- The interrupt line of a counter was set to a level. -/
  | irqToggle (n : CounterId) (level : Bool)
deriving DecidableEq, Repr

/-- What an operation returns to the host (30_encoding.md R70). -/
inductive Result where
  | none
  /-- The `u32` of a register read. -/
  | word (value : Word)
  /-- The Bool of TICK. -/
  | wrapped (value : Bool)
  /-- The `u64` of CLK_READ. -/
  | hostTicks (value : HostTicks)
deriving DecidableEq, Repr

/-- What comes from outside the block, as data a step consumes; the model's own fields (assumption log 2, 8, 9). -/
structure Inputs where
  /-- The operations the host has issued and the block has not run yet, oldest first (R44). -/
  requests : List Request
  /-- The host clock's coming answers (40_cycleclock.md R103). -/
  clockAnswers : List HostTicks
  /-- How many draws were made: the index of the free value `Config.hostClock`. -/
  clockDraws : Nat
  /-- The register operations of the CPU, one list for each coming effective SYS_STEP (43_system.md R177). -/
  cpuSteps : List (List BusOp)
deriving DecidableEq, Repr

/-- The state of the block. -/
structure State where
  rc : PerCounter RootCounter
  clk : CycleClock
  sch : Scheduler
  sys : SystemFacade
  irq : InterruptAdapter
  /-- The output trace, oldest event first (R41). -/
  trace : List Event
  /-- What the host's last operation returned (assumption log 10). -/
  result : Result
  /-- What the CPU's register reads returned, oldest first (assumption log 10). -/
  cpuReads : List Word
  /-- The mark `faulted` (R42). -/
  faulted : Bool
  /-- The mark `refused` (R42). -/
  refused : Bool
  /-- The OPEN parameters of 00_scope.md R8; no operation changes them (assumption log 7). -/
  params : Params
  inputs : Inputs
deriving DecidableEq, Repr

/-- Why the machine stops in a fault state or has no step. -/
inductive Fault where
  /-- Raised by CLK_CALIBRATE where the host has no high-resolution clock (40_cycleclock.md R101). Safe: the spec's own fault. -/
  | calibrationFailed
  /-- Stuck: CLK_READ, SCHED_INIT or SCHED_STEP met a host clock answer below the last one, which is no admitted draw (R103, R104).
  Safe: the spec gives no step. -/
  | hostClockNotAdmitted
  /-- Stuck: an operation was issued with the `faulted` mark set (10_state.md R42). Safe: the spec gives no step. -/
  | alreadyFaulted
deriving DecidableEq, Repr

/-- Why an operation has no meaning (60_exceptions.md R202). -/
inductive Refusal where
  /-- An arm of exec without a meaning; no arm uses it. Safe. -/
  | notModelled (mnemonic : String)
  /-- The decoder, on a reserved code (30_encoding.md R75). Safe: the spec refuses. -/
  | reservedEncoding
  /-- The decoder, on a register access narrower than a word (20_memory.md R53; the name is the model's). Safe: the spec refuses. -/
  | narrowAccess
  /-- The decoder, on an operand where a legal operation takes none or none where it takes one (R70; assumption log 4). Safe: the pair
  is no request of the spec. -/
  | malformedRequest
  /-- WRITE_COUNTER (42_rootcounter.md R152). Safe: the spec refuses. -/
  | counterWriteUnsupported
  /-- A counter operation while the System is not initialized (R153). Safe: the spec refuses. -/
  | counterNotConstructed
  /-- A second CLK_CALIBRATE (40_cycleclock.md R102). Safe: the spec refuses. -/
  | recalibrationMidRun
  /-- SCHED_INIT before CLK_CALIBRATE (41_scheduler.md R123). Safe: the spec refuses. -/
  | clockNotCalibrated
  /-- A second SCHED_INIT (R123). Safe: the spec refuses. -/
  | schedulerAlreadyStarted
  /-- SCHED_STEP before SCHED_INIT (R110). Safe: the spec refuses. -/
  | schedulerNotStarted
  /-- SYS_INIT while initialized (43_system.md R170). Safe: the spec refuses. -/
  | alreadyInitialized
  /-- SYS_RUN while not initialized (R171). Safe: the spec refuses. -/
  | notInitialized
  /-- SYS_STEP issued by the host (R173). Safe: the spec refuses. -/
  | stepOutsideDrainLoop
  /-- An operation was issued with the `refused` mark set (10_state.md R42). Safe: the spec gives no step. -/
  | alreadyRefused
deriving DecidableEq, Repr

/-- What the registers of a counter that does not exist hold in the model: zeros (DESIGN CHOICE; assumption log 11, 12). -/
def RootCounter.absent : RootCounter :=
  { counter := 0, target := 0, mode := 0 }

/-- The state at the start of a run (R230 to R235). The elements the spec says have no value there (the counters, the resolution, the
Scheduler's and the adapter's elements) hold 0 or false (DESIGN CHOICE, unsafe; assumption log 11); the OPEN parameters are the
opaque `Config.params`; nothing is issued and no input is listed. -/
def State.reset : State :=
  { rc := PerCounter.replicate RootCounter.absent
    clk := { calibrated := false, resolution := 0, lastSample := 0 }
    sch :=
      { started := false, previous := 0, current := 0, totalCycles := 0, spanAccumulator := 0, renderTimeSpan := 0
        fpsTimeSpan := 0, fpsCounter := 0, fpsValue := 0 }
    sys := { initialized := false, running := false, cpuHandle := false, gpuHandle := false }
    irq := { oneshotFired := PerCounter.replicate false, lineLevel := PerCounter.replicate false }
    trace := []
    result := .none
    cpuReads := []
    faulted := false
    refused := false
    params := Config.params
    inputs := { requests := [], clockAnswers := [], clockDraws := 0, cpuSteps := [] } }

end Sys2Proof.Machine
end

