-- ==== Sys2Proof/Machine/Ops.lean ====
section
/-! DEFINITION. The named operations over the registers, the trace, the marks and the inputs, which the meanings are written over.
The block takes no trap (60_exceptions.md R216): no register saves a status and no pc moves. What stands for taking an exception here
is one shared operation, `State.settle`, which leaves the mark of a fault or of a refusal (10_state.md R42); the block's side of a
return from interrupt is WRITE_MODE (R216). -/

namespace Sys2Proof.Machine

/-- The value of one counter instance. -/
def perGet {α : Type} (p : PerCounter α) (n : CounterId) : α :=
  match n with
  | .c0 => p.c0
  | .c1 => p.c1
  | .c2 => p.c2

/-- The values with that of one counter instance replaced. -/
def perSet {α : Type} (p : PerCounter α) (n : CounterId) (a : α) : PerCounter α :=
  match n with
  | .c0 => { p with c0 := a }
  | .c1 => { p with c1 := a }
  | .c2 => { p with c2 := a }

/-! Registers. -/

/-- The registers `rc[n]` (R20). -/
def State.counterOf (s : State) (n : CounterId) : RootCounter :=
  perGet s.rc n

/-- The state with the registers `rc[n]` replaced. -/
def State.setCounterOf (s : State) (n : CounterId) (c : RootCounter) : State :=
  { s with rc := perSet s.rc n c }

/-- `rc[n].mode <- m`: the one write path of the mode word, for the bus and for the adapter (60_exceptions.md R206). -/
def State.setMode (s : State) (n : CounterId) (m : Word) : State :=
  s.setCounterOf n { s.counterOf n with mode := m }

/-- `rc[n].target <- t`. -/
def State.setTarget (s : State) (n : CounterId) (t : Word) : State :=
  s.setCounterOf n { s.counterOf n with target := t }

/-- `irq.oneshot_fired[n]` (R40). -/
def State.oneshotFired (s : State) (n : CounterId) : Bool :=
  perGet s.irq.oneshotFired n

/-- `irq.line_level[n]` (R40). -/
def State.lineLevel (s : State) (n : CounterId) : Bool :=
  perGet s.irq.lineLevel n

/-- `irq.oneshot_fired[n] <- b`. -/
def State.setOneshotFired (s : State) (n : CounterId) (b : Bool) : State :=
  { s with irq := { s.irq with oneshotFired := perSet s.irq.oneshotFired n b } }

/-- `irq.line_level[n] <- b`. -/
def State.setLineLevel (s : State) (n : CounterId) (b : Bool) : State :=
  { s with irq := { s.irq with lineLevel := perSet s.irq.lineLevel n b } }

/-- The Scheduler replaced. -/
def State.setSch (s : State) (x : Scheduler) : State :=
  { s with sch := x }

/-- The System facade replaced. -/
def State.setSys (s : State) (x : SystemFacade) : State :=
  { s with sys := x }

/-- The CycleClock replaced. -/
def State.setClk (s : State) (x : CycleClock) : State :=
  { s with clk := x }

/-! Observation. -/

/-- `emit E`: the event is appended to the trace (R41). -/
def State.emit (s : State) (e : Event) : State :=
  { s with trace := s.trace ++ [e] }

/-- What the host's operation returns (30_encoding.md R70). -/
def State.setResult (s : State) (r : Result) : State :=
  { s with result := r }

/-- What a register read of the CPU returns (43_system.md R177). -/
def State.recordCpuRead (s : State) (v : Word) : State :=
  { s with cpuReads := s.cpuReads ++ [v] }

/-- The CPU interrupt line an event of the trace drives: the line of its counter (60_exceptions.md R214). -/
def Event.cpuLine (p : Params) : Event → Option Nat
  | .irqPulse n => some (perGet p.irqLineOfCounter n)
  | .irqToggle n _ => some (perGet p.irqLineOfCounter n)
  | .render => none
  | .status _ => none

/-- The counter whose interrupt event this is. -/
def Event.irqCounter : Event → Option CounterId
  | .irqPulse n => some n
  | .irqToggle n _ => some n
  | .render => none
  | .status _ => none

/-! Inputs. -/

/-- The state with the pending requests replaced. -/
def State.setRequests (s : State) (rs : List Request) : State :=
  { s with inputs := { s.inputs with requests := rs } }

/-- The state with the CPU's coming steps replaced. -/
def State.setCpuSteps (s : State) (steps : List (List BusOp)) : State :=
  { s with inputs := { s.inputs with cpuSteps := steps } }

/-- A draw that answered `v`, with `rest` left to answer: `clk.last_sample <- v` (40_cycleclock.md R103). -/
def State.takeSample (s : State) (v : HostTicks) (rest : List HostTicks) : State :=
  { s with
    clk := { s.clk with lastSample := v }
    inputs := { s.inputs with clockAnswers := rest, clockDraws := s.inputs.clockDraws + 1 } }

/-- The host clock's answer where the state lists none: a free value, raised to the last sample where it lies below it, so that it
is any admitted draw (R103; assumption log 8). -/
def freeSample (last : HostTicks) (draws : Nat) : HostTicks :=
  if last ≤ Config.hostClock draws then Config.hostClock draws else last

/-- `draw HostClock()` (R103). A listed answer below the last sample is not admitted: no draw (R104). -/
def drawHostClock (s : State) : Option (HostTicks × State) :=
  match s.inputs.clockAnswers with
  | v :: rest => if s.clk.lastSample ≤ v then some (v, s.takeSample v rest) else none
  | [] =>
    some (freeSample s.clk.lastSample s.inputs.clockDraws,
      s.takeSample (freeSample s.clk.lastSample s.inputs.clockDraws) [])

/-! Faults and refusals. -/

/-- `require_counter(n)`: the counters exist only while the System is initialized (42_rootcounter.md R153). -/
def requireCounter (s : State) (o : Host.Outcome State Fault Refusal) : Host.Outcome State Fault Refusal :=
  if s.sys.initialized then o else .refused .counterNotConstructed

/-- The refusal of a request the decoder gives no operation. -/
def decodeRefusal : DecodeError → Refusal
  | .reservedEncoding => .reservedEncoding
  | .narrowAccess => .narrowAccess
  | .malformedRequest => .malformedRequest

/-- The state a run is left in after an outcome (10_state.md R42): a fault leaves the mark `faulted` on the state the operation was
issued in, a refusal the mark `refused`; an operation that has no step changes nothing (assumption log 13). -/
def State.settle (s : State) (o : Host.Outcome State Fault Refusal) : State :=
  match o with
  | .next t => t
  | .fault .calibrationFailed => { s with faulted := true }
  | .fault .hostClockNotAdmitted => s
  | .fault .alreadyFaulted => s
  | .refused .alreadyRefused => s
  | .refused _ => { s with refused := true }

end Sys2Proof.Machine
end

