-- ==== Sys2Proof/Machine/CycleClock.lean ====
section
/-! DEFINITION. The CycleClock operations (40_cycleclock.md R100 to R105). -/

namespace Sys2Proof.Machine

/-- CLK_CALIBRATE: refused where calibrated (R102), a fault where the host has no high-resolution clock (R101), otherwise the
resolution is `1000 / HOST_TICK_FREQUENCY` ms per host tick (R100). -/
def execClkCalibrate (s : State) : Host.Outcome State Fault Refusal :=
  if s.clk.calibrated then .refused .recalibrationMidRun
  else
    match s.params.hostTickFrequency with
    | none => .fault .calibrationFailed
    | some f =>
      .next ((s.setClk { s.clk with calibrated := true, resolution := 1000 / ((f : Nat) : Millis) }).setResult .none)

/-- CLK_READ: the host clock's answer; calibration is not needed (R103). -/
def execClkRead (s : State) : Host.Outcome State Fault Refusal :=
  match drawHostClock s with
  | some (v, t) => .next (t.setResult (.hostTicks v))
  | none => .fault .hostClockNotAdmitted

/-- The host ticks from one sample to a later one, in milliseconds, exactly (R105); the difference is of natural numbers (R111). -/
def ticksToMillis (resolution : Millis) (earlier later : HostTicks) : Millis :=
  ((later.toNat - earlier.toNat : Nat) : Millis) * resolution

end Sys2Proof.Machine
end

