-- ==== Sys2Proof/Machine/RootCounter.lean ====
section
/-! DEFINITION. The operations of a counter (42_rootcounter.md R140 to R153). What the host's operations and the CPU's register
operations share stands first, then the meaning of each instruction. -/

namespace Sys2Proof.Machine

/-- `rc[n].mode <- value; irq.oneshot_fired[n] <- false`: a bus WRITE_MODE (R142; 60_exceptions.md R209). -/
def busWriteMode (n : CounterId) (value : Word) (s : State) : State :=
  (s.setMode n (modeOperand value)).setOneshotFired n false

/-- `rc[n].target <- value & 0xFFFF`: WRITE_TARGET (R144). -/
def busWriteTarget (n : CounterId) (value : Word) (s : State) : State :=
  s.setTarget n (targetOperand value)

/-- TICK on the registers of one counter, with its wrap result (R145 to R148). -/
def tickRegisters (c : RootCounter) (cycles : Word) : RootCounter × Bool :=
  if modeEn c.mode then (c, false)
  else if wrapLimit c.mode c.target ≤ tickSum c.counter cycles then ({ c with counter := 0 }, true)
  else ({ c with counter := BitVec.ofNat 32 (tickSum c.counter cycles) }, false)

/-- Whether TICK of counter n wraps. -/
def tickWraps (n : CounterId) (cycles : Word) (s : State) : Bool :=
  (tickRegisters (s.counterOf n) cycles).2

/-- The state after TICK of counter n: only `rc[n].counter` can change (R149). -/
def tickCounter (n : CounterId) (cycles : Word) (s : State) : State :=
  s.setCounterOf n (tickRegisters (s.counterOf n) cycles).1

/-! The instructions. -/

/-- READ_COUNTER (R140). -/
def execReadCounter (n : CounterId) (s : State) : Host.Outcome State Fault Refusal :=
  requireCounter s (.next (s.setResult (.word (s.counterOf n).counter)))

/-- READ_MODE: clears nothing (R141). -/
def execReadMode (n : CounterId) (s : State) : Host.Outcome State Fault Refusal :=
  requireCounter s (.next (s.setResult (.word (s.counterOf n).mode)))

/-- WRITE_MODE (R142). -/
def execWriteMode (n : CounterId) (value : Word) (s : State) : Host.Outcome State Fault Refusal :=
  requireCounter s (.next ((busWriteMode n value s).setResult .none))

/-- READ_TARGET (R143). -/
def execReadTarget (n : CounterId) (s : State) : Host.Outcome State Fault Refusal :=
  requireCounter s (.next (s.setResult (.word (s.counterOf n).target)))

/-- WRITE_TARGET (R144). -/
def execWriteTarget (n : CounterId) (value : Word) (s : State) : Host.Outcome State Fault Refusal :=
  requireCounter s (.next ((busWriteTarget n value s).setResult .none))

/-- TICK issued directly: returns the wrap result and calls no adapter (R145, R149). -/
def execTick (n : CounterId) (cycles : Word) (s : State) : Host.Outcome State Fault Refusal :=
  requireCounter s (.next ((tickCounter n cycles s).setResult (.wrapped (tickWraps n cycles s))))

/-- WRITE_COUNTER: refused, whatever the operand (R151, R152) and whatever the state (assumption log 6). -/
def execWriteCounter (_n : CounterId) (_operand : Option Word) (_s : State) : Host.Outcome State Fault Refusal :=
  .refused .counterWriteUnsupported

end Sys2Proof.Machine
end

