-- ==== Sys2Proof/Machine/Adapter.lean ====
section
/-! DEFINITION. The InterruptAdapter with the reference policy of 60_exceptions.md R205, and the SYS_STEP's treatment of one
counter: its TICK, and the adapter on a wrap (43_system.md R173). -/

namespace Sys2Proof.Machine

/-- The signal of an assertion: a pulse event, or the line inverted and its new level as the event (R210, R211). -/
def signalIrq (n : CounterId) (toggle : Bool) (s : State) : State :=
  if toggle then (s.setLineLevel n (!s.lineLevel n)).emit (.irqToggle n (!s.lineLevel n))
  else s.emit (.irqPulse n)

/-- `ADAPTER_ON_WRAP(n)` (R205). -/
def adapterOnWrap (n : CounterId) (s : State) : State :=
  let m := (s.counterOf n).mode
  if wrapAsserts m (s.oneshotFired n) then
    (signalIrq n (modeIrqpulse m) (s.setOneshotFired n true)).setMode n (adapterMode m (s.oneshotFired n))
  else s.setMode n (adapterMode m (s.oneshotFired n))

/-- One counter's part of SYS_STEP: TICK by `STEP_CYCLES`, then the adapter where it wrapped (43_system.md R173, R175). -/
def tickWithAdapter (n : CounterId) (s : State) : State :=
  if tickWraps n Config.stepCycles s then adapterOnWrap n (tickCounter n Config.stepCycles s)
  else tickCounter n Config.stepCycles s

end Sys2Proof.Machine
end

