-- ==== Sys2Proof/Machine/System.lean ====
section
/-! DEFINITION. The System facade (43_system.md R170 to R177): the lifecycle, and SYS_STEP as the drain loop issues it. -/

namespace Sys2Proof.Machine

/-- One register operation of the CPU (R177): the effect of the host's operation of the same name, its result given to the CPU. -/
def runBusOp (s : State) : BusOp → State
  | .readCounter n => s.recordCpuRead (s.counterOf n).counter
  | .readMode n => s.recordCpuRead (s.counterOf n).mode
  | .writeMode n value => busWriteMode n value s
  | .readTarget n => s.recordCpuRead (s.counterOf n).target
  | .writeTarget n value => busWriteTarget n value s

/-- The CPU's register operations of one step, in its own order (R177). -/
def runBusOps : List BusOp → State → State
  | [], s => s
  | op :: ops, s => runBusOps ops (runBusOp s op)

/-- `CPU.Step()`: the external agent's register operations for this step; none where the state lists no further step (R177;
assumption log 9). -/
def cpuStep (s : State) : State :=
  match s.inputs.cpuSteps with
  | [] => s
  | ops :: rest => runBusOps ops (s.setCpuSteps rest)

/-- SYS_STEP has an effect only while the System is initialized and running (R173). -/
def stepEffective (s : State) : Bool :=
  s.sys.initialized && s.sys.running

/-- SYS_STEP as the drain loop issues it: the CPU first, then the counters in index order, each counter's wrap handled before the
next counter ticks (R173; 60_exceptions.md R215). -/
def sysStep (s : State) : State :=
  if stepEffective s then
    tickWithAdapter .c2 (tickWithAdapter .c1 (tickWithAdapter .c0 (cpuStep s)))
  else s

/-- A counter as SYS_INIT constructs it (R170; 70_reset_and_hazards.md R230). -/
def constructedCounter : RootCounter :=
  { counter := 0, target := 0, mode := 0 }

/-- Every counter constructed and the adapter's memory cleared (R170; 70_reset_and_hazards.md R230, R234). -/
def constructCounters (s : State) : State :=
  { s with
    rc := PerCounter.replicate constructedCounter
    irq := { oneshotFired := PerCounter.replicate false, lineLevel := PerCounter.replicate false } }

/-- The counters destroyed: their registers hold the values they have before a construction, which no operation can read
(R174; assumption log 12). -/
def destroyCounters (s : State) : State :=
  { s with rc := PerCounter.replicate RootCounter.absent }

/-- SYS_INIT (R170). -/
def execSysInit (s : State) : Host.Outcome State Fault Refusal :=
  if s.sys.initialized then .refused .alreadyInitialized
  else
    .next (((constructCounters s).setSys
      { initialized := true, running := false, cpuHandle := true, gpuHandle := true }).setResult .none)

/-- SYS_RUN (R171). -/
def execSysRun (s : State) : Host.Outcome State Fault Refusal :=
  if s.sys.initialized then .next ((s.setSys { s.sys with running := true }).setResult .none)
  else .refused .notInitialized

/-- SYS_STOP: admitted in every state (R172). -/
def execSysStop (s : State) : Host.Outcome State Fault Refusal :=
  .next ((s.setSys { s.sys with running := false }).setResult .none)

/-- SYS_STEP issued by the host: refused; its effect is `sysStep`, inside SCHED_STEP (R173). -/
def execSysStep (_s : State) : Host.Outcome State Fault Refusal :=
  .refused .stepOutsideDrainLoop

/-- SYS_DEINIT: nothing where not initialized; otherwise stop, release and destroy (R174). -/
def execSysDeinit (s : State) : Host.Outcome State Fault Refusal :=
  if s.sys.initialized then
    .next (((destroyCounters s).setSys
      { initialized := false, running := false, cpuHandle := false, gpuHandle := false }).setResult .none)
  else .next (s.setResult .none)

end Sys2Proof.Machine
end

