-- ==== Sys2Proof/Machine/Scheduler.lean ====
section
/-! DEFINITION. The Scheduler (41_scheduler.md R110 to R124): SCHED_STEP as its seven numbered steps, and SCHED_INIT. -/

namespace Sys2Proof.Machine

/-- Steps 1 and 2: the host time since the previous call, clamped to `MAX_SPAN_MS` (R111, R112). -/
def clampedSpan (s : State) (sample : HostTicks) : Millis :=
  min (ticksToMillis s.clk.resolution s.sch.previous sample) Config.maxSpanMs

/-- Step 1: `sch.current` and `sch.previous` take the sample (R111). -/
def schedSample (sample : HostTicks) (s : State) : State :=
  s.setSch { s.sch with current := sample, previous := sample }

/-- Step 3: the clamped span is added to the accumulator (R113). -/
def schedAccumulate (span : Millis) (s : State) : State :=
  s.setSch { s.sch with spanAccumulator := s.sch.spanAccumulator + span }

/-- One iteration of the drain loop: SYS_STEP, then `DT_MS` is consumed whether or not the step had an effect (R114, R124). -/
def drainOnce (s : State) : State :=
  let t := sysStep s
  t.setSch { t.sch with spanAccumulator := t.sch.spanAccumulator - Config.dtMs }

/-- Step 4: the drain loop with `cap` iterations left; the state it ends in and the iterations it made (R114). -/
def drainLoop : Nat → State → State × Nat
  | 0, s => (s, 0)
  | cap + 1, s =>
    if Config.dtMs ≤ s.sch.spanAccumulator then
      let r := drainLoop cap (drainOnce s)
      (r.1, r.2 + 1)
    else (s, 0)

/-- The backlog left by a capped loop is clamped to `MAX_SPAN_MS` (R115). -/
def schedClampBacklog (s : State) : State :=
  s.setSch { s.sch with spanAccumulator := min s.sch.spanAccumulator Config.maxSpanMs }

/-- Step 5: the cumulative emulated cycles, modulo 2^64 (R116). -/
def schedCount (steps : Nat) (s : State) : State :=
  s.setSch { s.sch with totalCycles := s.sch.totalCycles + BitVec.ofNat 64 (steps * Config.stepCycles.toNat) }

/-- Step 6: render pacing (R117). -/
def schedRender (span : Millis) (s : State) : State :=
  if Config.renderPeriodMs ≤ s.sch.renderTimeSpan + span then
    (s.emit .render).setSch { s.sch with renderTimeSpan := 0, fpsCounter := s.sch.fpsCounter + 1 }
  else s.setSch { s.sch with renderTimeSpan := s.sch.renderTimeSpan + span }

/-- The string of the status sink: the decimal digits, no padding and no sign (R119). -/
def statusText (fps : Nat) : String :=
  "FPS: " ++ Nat.repr fps

/-- Step 7: FPS pacing (R118). -/
def schedFps (span : Millis) (s : State) : State :=
  if Config.fpsWindowMs ≤ s.sch.fpsTimeSpan + span then
    (s.setSch { s.sch with fpsValue := s.sch.fpsCounter, fpsCounter := 0, fpsTimeSpan := 0 }).emit
      (.status (statusText s.sch.fpsCounter))
  else s.setSch { s.sch with fpsTimeSpan := s.sch.fpsTimeSpan + span }

/-- The drain loop of one call, with the cap `MAX_STEPS_PER_CALL` of the parameters (R114, R115). -/
def schedDrain (s : State) : State × Nat :=
  drainLoop (s.params.maxStepsPerCall : Nat) s

/-- Steps 3 to 5 of a call: accumulate, drain, clamp, count. -/
def schedEmulate (span : Millis) (s : State) : State :=
  let r := schedDrain (schedAccumulate span s)
  schedCount r.2 (schedClampBacklog r.1)

/-- Steps 6 and 7 of a call, which read the span and never the step count (R120). -/
def schedPace (span : Millis) (s : State) : State :=
  schedFps span (schedRender span s)

/-- The whole of one call after its draw of `sample` (R110). -/
def schedCall (sample : HostTicks) (s : State) : State :=
  schedPace (clampedSpan s sample) (schedEmulate (clampedSpan s sample) (schedSample sample s))

/-- SCHED_STEP (R110). -/
def execSchedStep (s : State) : Host.Outcome State Fault Refusal :=
  if s.sch.started then
    match drawHostClock s with
    | some (v, t) => .next ((schedCall v t).setResult .none)
    | none => .fault .hostClockNotAdmitted
  else .refused .schedulerNotStarted

/-- The Scheduler as SCHED_INIT leaves it after a draw of `sample` (R123; 70_reset_and_hazards.md R231). -/
def startedScheduler (sample : HostTicks) : Scheduler :=
  { started := true, previous := sample, current := sample, totalCycles := 0, spanAccumulator := 0, renderTimeSpan := 0
    fpsTimeSpan := 0, fpsCounter := 0, fpsValue := 0 }

/-- SCHED_INIT (R123). -/
def execSchedInit (s : State) : Host.Outcome State Fault Refusal :=
  if s.clk.calibrated then
    if s.sch.started then .refused .schedulerAlreadyStarted
    else
      match drawHostClock s with
      | some (v, t) => .next ((t.setSch (startedScheduler v)).setResult .none)
      | none => .fault .hostClockNotAdmitted
  else .refused .clockNotCalibrated

end Sys2Proof.Machine
end

