-- ==== Sys2Proof/Machine/Dispatch.lean ====
section
/-! DEFINITION. The dispatch: one arm per operation, one direct call of its meaning. -/

namespace Sys2Proof.Machine

def exec (i : Instr) (s : State) : Host.Outcome State Fault Refusal :=
  match i with
  | .readCounter n => Sys2Proof.Machine.execReadCounter n s
  | .readMode n => Sys2Proof.Machine.execReadMode n s
  | .writeMode n value => Sys2Proof.Machine.execWriteMode n value s
  | .readTarget n => Sys2Proof.Machine.execReadTarget n s
  | .writeTarget n value => Sys2Proof.Machine.execWriteTarget n value s
  | .tick n cycles => Sys2Proof.Machine.execTick n cycles s
  | .clkCalibrate => Sys2Proof.Machine.execClkCalibrate s
  | .clkRead => Sys2Proof.Machine.execClkRead s
  | .schedInit => Sys2Proof.Machine.execSchedInit s
  | .schedStep => Sys2Proof.Machine.execSchedStep s
  | .sysInit => Sys2Proof.Machine.execSysInit s
  | .sysRun => Sys2Proof.Machine.execSysRun s
  | .sysStop => Sys2Proof.Machine.execSysStop s
  | .sysStep => Sys2Proof.Machine.execSysStep s
  | .sysDeinit => Sys2Proof.Machine.execSysDeinit s
  | .writeCounter n operand => Sys2Proof.Machine.execWriteCounter n operand s

end Sys2Proof.Machine
end

