-- ==== Sys2Proof/Machine/Step.lean ====
section
/-! DEFINITION. One step of the machine: the oldest request the host has issued is decoded and run as one transition
(10_state.md R44; 20_memory.md R56). A marked state has no step (10_state.md R42); where nothing is issued the state stays
(assumption log 3). -/

namespace Sys2Proof.Machine

def step (s : State) : Host.Outcome State Fault Refusal :=
  if s.faulted then .fault .alreadyFaulted
  else if s.refused then .refused .alreadyRefused
  else
    match s.inputs.requests with
    | [] => .next s
    | r :: rest =>
      match decode r with
      | .ok i => exec i (s.setRequests rest)
      | .error e => .refused (decodeRefusal e)

/-- The state with the table word's request issued before every other one, so that `step` runs exactly it (assumption log 2). -/
def State.withFetchWord (s : State) (nbits w : Nat) : State :=
  s.setRequests (requestOfTableWord nbits w :: s.inputs.requests)

end Sys2Proof.Machine
end

