-- ==== Sys2Proof/Machine/Pseudo.lean ====
section
/-! DEFINITION. The pseudo-operations (30_encoding.md R79), each an exact expansion into operations, and what issuing one does. -/

namespace Sys2Proof.Machine

/-- The operations a pseudo-operation expands into; `m` is what its READ_MODE gave, which only ACK uses (R79). -/
def pseudoExpansion (m : Word) : Pseudo → List Instr
  | .startFree n => [.writeMode n 0x00000000]
  | .startTarget n t => [.writeTarget n t, .writeMode n 0x00000008]
  | .haltCounter n => [.writeMode n 0x00000001]
  | .ack n => [.readMode n, .writeMode n (m &&& ackMask)]

/-- Operations issued one after the other, up to the first that gives no next state. -/
def execAll : List Instr → State → Host.Outcome State Fault Refusal
  | [], s => .next s
  | i :: is, s =>
    match exec i s with
    | .next t => execAll is t
    | .fault r => .fault r
    | .refused r => .refused r

/-- The counter a pseudo-operation names. -/
def pseudoCounter : Pseudo → CounterId
  | .startFree n => n
  | .startTarget n _ => n
  | .haltCounter n => n
  | .ack n => n

/-- A pseudo-operation issued by the host: its expansion, ACK's write masking what its read gives (R79). -/
def execPseudo (p : Pseudo) (s : State) : Host.Outcome State Fault Refusal :=
  execAll (pseudoExpansion (s.counterOf (pseudoCounter p)).mode p) s

end Sys2Proof.Machine
end

