-- ==== Sys2Proof/Safety.lean ====
section
/-! DEFINITION. What counts as a safe state and a safe run, in the terms claims use: the invariants of 10_state.md on the registers,
the CycleClock, the Scheduler and the System, and runs that keep the marks of R42. -/

namespace Sys2Proof.Machine

/-- `rc[n].counter <= 0xFFFE`, and the target is at most 16 bits (10_state.md R21, R22). -/
def RootCounter.InRange (c : RootCounter) : Prop :=
  c.counter.toNat ≤ 0xFFFE ∧ c.target.toNat ≤ 0xFFFF

/-- Every counter is in range. -/
def State.CountersInRange (s : State) : Prop :=
  ∀ n, (s.counterOf n).InRange

/-- The resolution is positive once calibrated (R35), and the Scheduler is started only on a calibrated clock (41_scheduler.md R123). -/
def State.ClockSane (s : State) : Prop :=
  (s.clk.calibrated = true → 0 < s.clk.resolution) ∧ (s.sch.started = true → s.clk.calibrated = true)

/-- Between Scheduler calls `previous` is the sample of the last call, which is no later than the last draw (R36, R103). -/
def State.SamplesOrdered (s : State) : Prop :=
  s.sch.started = true → s.sch.current = s.sch.previous ∧ s.sch.previous ≤ s.clk.lastSample

/-- `0 <= span_accumulator <= MAX_SPAN_MS` (R37). -/
def State.BacklogBounded (s : State) : Prop :=
  0 ≤ s.sch.spanAccumulator ∧ s.sch.spanAccumulator ≤ Config.maxSpanMs

/-- The bounds of the pacing accumulators between calls (R38). -/
def State.PacingBounded (s : State) : Prop :=
  (0 ≤ s.sch.renderTimeSpan ∧ s.sch.renderTimeSpan < Config.renderPeriodMs) ∧
    0 ≤ s.sch.fpsTimeSpan ∧ s.sch.fpsTimeSpan < Config.fpsWindowMs

/-- The System is in one of its three states: it runs only while initialized, and it holds its subsystems exactly while initialized
(43_system.md R176; 10_state.md R39). -/
def State.LifecycleSane (s : State) : Prop :=
  (s.sys.running = true → s.sys.initialized = true) ∧
    s.sys.cpuHandle = s.sys.initialized ∧ s.sys.gpuHandle = s.sys.initialized

/-- The invariant of the machine: all of the above. -/
def State.Inv (s : State) : Prop :=
  s.CountersInRange ∧ s.ClockSane ∧ s.SamplesOrdered ∧ s.BacklogBounded ∧ s.PacingBounded ∧ s.LifecycleSane

/-- The host answers the next draw with `v`, an admitted draw: the listed answer, not before the last sample, or the free value
where none is listed (40_cycleclock.md R103, R104; the form is the model's: assumption log 8). -/
def State.Draws (s : State) (v : HostTicks) : Prop :=
  (∃ rest, s.inputs.clockAnswers = v :: rest ∧ s.clk.lastSample ≤ v) ∨
    (s.inputs.clockAnswers = [] ∧ v = freeSample s.clk.lastSample s.inputs.clockDraws)

/-- The inputs after a draw. -/
def State.inputsAfterDraw (s : State) : Inputs :=
  { s.inputs with clockAnswers := s.inputs.clockAnswers.tail, clockDraws := s.inputs.clockDraws + 1 }

/-- A register operation of the CPU that reads. -/
def BusOp.isRead : BusOp → Bool
  | .readCounter _ | .readMode _ | .readTarget _ => true
  | .writeMode _ _ | .writeTarget _ _ => false

/-- The reserved codes as 30_encoding.md R75 lists them, the write of the counter register apart. -/
def reservedCode (c : Code) : Bool :=
  if c.getLsbD 7 then
    decide (10 ≤ (c.extractLsb' 2 5).toNat) ||
      (c.extractLsb' 2 5 == 0 && c.extractLsb' 0 2 == 3) ||
      (decide (1 ≤ (c.extractLsb' 2 5).toNat ∧ (c.extractLsb' 2 5).toNat ≤ 9) && c.extractLsb' 0 2 != 0)
  else c.extractLsb' 2 2 != 0 || c.extractLsb' 4 2 == 3 || c.extractLsb' 0 2 == 3

/-- The host time of a call in milliseconds, clamped to 250 ms (41_scheduler.md R111, R112), from the spec's own numbers. -/
def State.spanOfCall (s : State) (sample : HostTicks) : Millis :=
  min (((sample.toNat - s.sch.previous.toNat : Nat) : Millis) * s.clk.resolution) 250

/-- The accumulator after step 3 of a call (R113). -/
def State.backlogOfCall (s : State) (sample : HostTicks) : Millis :=
  s.sch.spanAccumulator + s.spanOfCall sample

/-- The SYS_STEPs of a call, `min(MAX_STEPS_PER_CALL, floor(A / DT_MS))` (R114). -/
def State.stepsOfCall (s : State) (sample : HostTicks) : Nat :=
  min (s.params.maxStepsPerCall : Nat) ⌊s.backlogOfCall sample / (5 / 169344)⌋₊

/-- Whether the call renders (R117). -/
def State.rendersInCall (s : State) (sample : HostTicks) : Bool :=
  decide (16667 / 1000 ≤ s.sch.renderTimeSpan + s.spanOfCall sample)

/-- Whether the call publishes an FPS value (R118). -/
def State.publishesInCall (s : State) (sample : HostTicks) : Bool :=
  decide (1000 ≤ s.sch.fpsTimeSpan + s.spanOfCall sample)

/-- The renders of the FPS window, this call's included (R117, R118). -/
def State.rendersCounted (s : State) (sample : HostTicks) : Nat :=
  s.sch.fpsCounter + (if s.rendersInCall sample then 1 else 0)

/-- The events of render and FPS pacing in a call, in their order (R117, R118, R119). -/
def State.pacingEvents (s : State) (sample : HostTicks) : List Event :=
  (if s.rendersInCall sample then [.render] else []) ++
    (if s.publishesInCall sample then [.status ("FPS: " ++ Nat.repr (s.rendersCounted sample))] else [])

/-- The host's operation of the same name (43_system.md R177). -/
def BusOp.hostOperation : BusOp → Instr
  | .readCounter n => .readCounter n
  | .readMode n => .readMode n
  | .writeMode n value => .writeMode n value
  | .readTarget n => .readTarget n
  | .writeTarget n value => .writeTarget n value

/-- The word a register read returned; nothing for an operation that returns no word (30_encoding.md R70). -/
def Result.words : Result → List Word
  | .word value => [value]
  | .none | .wrapped _ | .hostTicks _ => []

/-- The host's operations of the same names issued one after the other: the state they end in and the words their reads returned, in
order; none where one of them stops. -/
def runAsHost : List BusOp → State → Option (State × List Word)
  | [], s => some (s, [])
  | op :: ops, s =>
    match exec (BusOp.hostOperation op) s with
    | .next t => (runAsHost ops t).map fun r => (r.1, t.result.words ++ r.2)
    | .fault _ => none
    | .refused _ => none

/-- Counter `n` wraps and asserts in an effective SYS_STEP: TICK of one cycle of the counter the CPU's step left wraps, the enable of
the wrap's kind is set, and the counter repeats or has not fired (60_exceptions.md R204, R207, R208). -/
def State.assertsInStep (s : State) (n : CounterId) : Bool :=
  let c := (cpuStep s).counterOf n
  (tickRegisters c 1).2 && (if c.mode.getLsbD 3 then c.mode.getLsbD 4 else c.mode.getLsbD 5) &&
    (c.mode.getLsbD 6 || !(cpuStep s).oneshotFired n)

/-- The event of that assertion: a pulse, or the toggled line at its new level (R210, R211). -/
def State.eventInStep (s : State) (n : CounterId) : Event :=
  if ((cpuStep s).counterOf n).mode.getLsbD 7 then .irqToggle n (!(cpuStep s).lineLevel n) else .irqPulse n

/-- The CPU writes no mode word of counter `n` in this step. -/
def noModeWrite (n : CounterId) (ops : List BusOp) : Prop :=
  ∀ v, BusOp.writeMode n v ∉ ops

/-- The operation does not rewrite the mode word of counter `n`: no WRITE_MODE of it, and no SYS_INIT, which constructs it anew
(60_exceptions.md R209). -/
def keepsModeWord (n : CounterId) (i : Instr) : Prop :=
  (∀ v, i ≠ .writeMode n v) ∧ i ≠ .sysInit

/-- The interrupt events of counter `n` in a trace. -/
def irqEventsOf (n : CounterId) (trace : List Event) : List Event :=
  trace.filter (fun e => e.irqCounter == some n)

/-- `k` steps in the spec's own terms: a fault or a refusal leaves its mark, and nothing moves after it (R42). -/
def settledRun : Nat → State → State
  | 0, s => s
  | k + 1, s => settledRun k (s.settle (step s))

/-- A run ended well: no mark is set (60_exceptions.md R200, R202). -/
def State.Unmarked (s : State) : Prop :=
  s.faulted = false ∧ s.refused = false

end Sys2Proof.Machine
end

