-- ==== Sys2Proof/Certificates/Slice0/Obligations.lean ====
section
/-! DEFINITION. The statements for the provers. Each docstring cites the rule it formalises. Where a statement gives the next state as
`{ s with … }`, or as a `t` with `t = { s with … }`, everything not named there is unchanged: that is its frame. A draw of the host
clock is a premise `s.Draws v` (assumption log 8), the CPU's register operations are `inputs.cpuSteps` (assumption log 9), and what an
operation returns is `result` (assumption log 10): forms of the model for what the spec takes from outside and gives back. -/

open Sys2Proof Sys2Proof.Machine

/-! ## Encoding -/

/-- Decoding the request that encodes an operation gives it back, with every operand (30_encoding.md R70 to R77). -/
def Obligations.DecodeOfEncode : Prop :=
  ∀ i : Instr, decode (encode i) = .ok i

/-- Each request has at most one operation, and the operation has one request (R70, R76). Of what is decoded only the access width is
lost, and only of a port request and of a counter write: a register access presents a word (20_memory.md R53), and that the two others'
width is not consulted is the model's (assumption log 5 and 22). -/
def Obligations.EncodeOfDecode : Prop :=
  ∀ (r : Request) (i : Instr), decode r = .ok i →
    encode i = { r with width := .word } ∧
    (r.code.getLsbD 7 = false → i.legal = true → r.width = .word ∧ encode i = r)

/-- The decoder accepts exactly the requests of the opcode table (R70, R73 to R76; 20_memory.md R53), the counter write by its code
alone (R151, R152). Two of its clauses are the model's: a legal operation's operand missing or superfluous is refused (assumption log
4), and a port request and a counter write of any access width are accepted (assumption log 5 and 22). -/
def Obligations.DecoderAcceptsExactlyTheTable : Prop :=
  ∀ r : Request, (∃ i, decode r = .ok i) ↔ r.WellFormed = true

/-- R75 (the spec's decision D2): every code not listed in R73 and R74 is refused: a code is outside the 27 legal codes exactly if it
is one of the listed reserved forms or the format B write of the counter register, a request with such a code is refused whatever its
operand and width, and with the reason ReservedEncoding but for the counter write. -/
def Obligations.ReservedEncodingsAreRefused : Prop :=
  (∀ c : Code, c ∉ legalCodes ↔ reservedCode c = true ∨ c.extractLsb' 4 4 = 4 ∧ c.extractLsb' 2 2 = 0 ∧ c.extractLsb' 0 2 ≠ 3) ∧
  (∀ (s : State) (r : Request) (rest : List Request), s.Unmarked → s.inputs.requests = r :: rest → r.code ∉ legalCodes →
    ∃ why, step s = .refused why) ∧
  (∀ (s : State) (r : Request) (rest : List Request), s.Unmarked → s.inputs.requests = r :: rest → reservedCode r.code = true →
    step s = .refused .reservedEncoding)

/-- 20_memory.md R53: a register access narrower than a word is refused. The reason's name is the model's (assumption log 5), and so is
that it wins over CounterNotConstructed while the System is not initialized (assumption log 23). -/
def Obligations.NarrowAccessIsRefused : Prop :=
  ∀ (s : State) (i : Instr) (n : CounterId) (w : AccessWidth) (rest : List Request), s.Unmarked →
    i.counterOperation = some n → (encode i).code.getLsbD 7 = false → w ≠ .word →
    s.inputs.requests = { encode i with width := w } :: rest → step s = .refused .narrowAccess

/-- Codes of each family, read as 95_test_vectors.md 2.1 gives them (R71 to R75). That the four words with an operand hold the code in
bits 7:0 and the operand in bits 39:8 is the model's layout, for the opcode table's word form only (assumption log 1). -/
def Obligations.SampleWordsDecode : Prop :=
  decodeTableWord 8 0x00 = some (.readCounter .c0) ∧ decodeTableWord 8 0x12 = some (.readMode .c2) ∧
  decodeTableWord 8 0x21 = some (.readTarget .c1) ∧ decodeTableWord 40 0x1852 = some (.writeMode .c2 0x18) ∧
  decodeTableWord 40 0x1234567860 = some (.writeTarget .c0 0x12345678) ∧ decodeTableWord 40 0x6482 = some (.tick .c2 100) ∧
  decodeTableWord 8 0x84 = some .clkCalibrate ∧ decodeTableWord 8 0x90 = some .schedStep ∧
  decodeTableWord 8 0xA4 = some .sysDeinit ∧ decodeTableWord 40 0x740 = some (.writeCounter .c0 (some 7)) ∧
  decodeTableWord 8 0x13 = none ∧ decodeTableWord 8 0x30 = none ∧ decodeTableWord 8 0x04 = none ∧
  decodeTableWord 8 0x83 = none ∧ decodeTableWord 8 0x85 = none ∧ decodeTableWord 8 0xA8 = none ∧ decodeTableWord 8 0xFF = none

/-! ## The step -/

/-- A step runs the oldest request: where it decodes to `i`, the step is `exec i` on the state with that request taken; where it does
not, the step is the decoder's refusal; where none is issued the state stays (10_state.md R44; 20_memory.md R56; the last clause is
the model's choice, assumption log 3). -/
def Obligations.StepRunsTheDecodedOperation : Prop :=
  ∀ s : State, s.Unmarked →
    (∀ (r : Request) (rest : List Request) (i : Instr), s.inputs.requests = r :: rest → decode r = .ok i →
      step s = exec i { s with inputs := { s.inputs with requests := rest } }) ∧
    (∀ (r : Request) (rest : List Request) (e : DecodeError), s.inputs.requests = r :: rest → decode r = .error e →
      step s = .refused (decodeRefusal e)) ∧
    (s.inputs.requests = [] → step s = .next s)

/-- R42: no operation clears a mark, a fault and a refusal leave theirs (through `State.settle`, which is the model's: assumption log
13), and a marked state has no step. -/
def Obligations.MarksAreForGood : Prop :=
  (∀ (i : Instr) (s t : State), exec i s = .next t → t.faulted = s.faulted ∧ t.refused = s.refused) ∧
  (∀ s : State, step s = .fault .calibrationFailed → s.settle (step s) = { s with faulted := true }) ∧
  (∀ (s : State) (why : Refusal), step s = .refused why → s.refused = false → s.settle (step s) = { s with refused := true }) ∧
  (∀ s t : State, s.faulted = true ∨ s.refused = true → step s ≠ .next t)

/-- No step changes the parameters (R43), and no operation but the host's own adds a request (10_state.md R44). -/
def Obligations.ParametersAreConstant : Prop :=
  ∀ (i : Instr) (s t : State), exec i s = .next t → t.params = s.params ∧ t.inputs.requests = s.inputs.requests

/-! ## Start of a run -/

/-- R235: no mark is set and the trace is empty at the start of a run; and the other values 70_reset_and_hazards.md gives for it
(R231, R232, R233): not calibrated, last sample 0, not started, not initialized, not running. -/
def Obligations.StartOfARun : Prop :=
  State.reset.clk.calibrated = false ∧ State.reset.clk.lastSample = 0 ∧ State.reset.sch.started = false ∧
  State.reset.sys.initialized = false ∧ State.reset.sys.running = false ∧
  State.reset.faulted = false ∧ State.reset.refused = false ∧ State.reset.trace = []

/-- The start of a run meets the invariant of the machine (the elements without a value hold zeros there: assumption log 11). -/
def Obligations.StartOfARunMeetsInvariant : Prop :=
  State.reset.Inv

/-- The invariant of the machine, kept by every step from every state that meets it: R21 and R22 on the counters, R35 on the
resolution, R37 and R38 on the accumulators, R39 and R176 on the System (its handles as the model keeps them: assumption log 15). -/
def Obligations.EveryStepKeepsInvariant : Prop :=
  ∀ s t : State, s.Inv → step s = .next t → t.Inv

/-! ## Register operations -/

/-- R140, R141, R143: the reads, at their codes, return the register verbatim and change nothing; before the counters exist they are
refused. -/
def Obligations.ReadsReturnRegisters : Prop :=
  (∀ n : CounterId, (encode (.readCounter n)).code.toNat = 0x00 + n.index ∧ (encode (.readMode n)).code.toNat = 0x10 + n.index ∧
    (encode (.readTarget n)).code.toNat = 0x20 + n.index) ∧
  (∀ (s : State) (n : CounterId), s.sys.initialized = true →
    exec (.readCounter n) s = .next { s with result := .word (s.counterOf n).counter } ∧
    exec (.readMode n) s = .next { s with result := .word (s.counterOf n).mode } ∧
    exec (.readTarget n) s = .next { s with result := .word (s.counterOf n).target }) ∧
  (∀ (s : State) (n : CounterId), s.sys.initialized = false →
    exec (.readCounter n) s = .refused .counterNotConstructed ∧ exec (.readMode n) s = .refused .counterNotConstructed ∧
    exec (.readTarget n) s = .refused .counterNotConstructed)

/-- R142 (with the spec's decision D34): WRITE_MODE, at its code, replaces the mode word verbatim and re-arms the one-shot latch;
counter, target, line level and every other counter stay. Before the counters exist it is refused. -/
def Obligations.WriteModeReplacesTheWord : Prop :=
  ∀ (s : State) (n : CounterId) (value : Word),
    encode (.writeMode n value) = { code := BitVec.ofNat 8 (0x50 + n.index), operand := some value, width := .word } ∧
    (s.sys.initialized = true →
      ∃ t, exec (.writeMode n value) s = .next t ∧ t = { s with rc := t.rc, irq := t.irq, result := .none } ∧
        t.counterOf n = { s.counterOf n with mode := value } ∧ (∀ k, k ≠ n → t.counterOf k = s.counterOf k) ∧
        t.oneshotFired n = false ∧ (∀ k, k ≠ n → t.oneshotFired k = s.oneshotFired k) ∧
        t.irq.lineLevel = s.irq.lineLevel) ∧
    (s.sys.initialized = false → exec (.writeMode n value) s = .refused .counterNotConstructed)

/-- R144: WRITE_TARGET, at its code, stores `value & 0xFFFF`, and changes nothing else. Before the counters exist it is refused. -/
def Obligations.WriteTargetMasks : Prop :=
  ∀ (s : State) (n : CounterId) (value : Word),
    encode (.writeTarget n value) = { code := BitVec.ofNat 8 (0x60 + n.index), operand := some value, width := .word } ∧
    (s.sys.initialized = true →
      ∃ t, exec (.writeTarget n value) s = .next t ∧ t = { s with rc := t.rc, result := .none } ∧
        t.counterOf n = { s.counterOf n with target := value &&& 0xFFFF#32 } ∧
        (∀ k, k ≠ n → t.counterOf k = s.counterOf k)) ∧
    (s.sys.initialized = false → exec (.writeTarget n value) s = .refused .counterNotConstructed)

/-- E1 (R23): for all `v`, WRITE_MODE v then READ_MODE returns exactly `v`, whatever was stored before. -/
def Obligations.ModeWordRoundTrips : Prop :=
  ∀ (s : State) (n : CounterId) (v : Word), s.sys.initialized = true →
    ∃ t u, exec (.writeMode n v) s = .next t ∧ exec (.readMode n) t = .next u ∧ u.result = .word v

/-- E2 (R22): for all `v`, WRITE_TARGET v then READ_TARGET returns `v & 0xFFFF`, whose bits 31:16 are 0. -/
def Obligations.TargetReadsBackMasked : Prop :=
  ∀ (s : State) (n : CounterId) (v : Word), s.sys.initialized = true →
    ∃ t u w, exec (.writeTarget n v) s = .next t ∧ exec (.readTarget n) t = .next u ∧ u.result = .word w ∧
      w.toNat = v.toNat % 65536

/-- 20_memory.md R55: reading twice is reading once, and two identical writes leave the same state as one. -/
def Obligations.RegisterAccessesAreIdempotent : Prop :=
  ∀ (s t : State) (n : CounterId) (v : Word) (i : Instr),
    i ∈ [.readCounter n, .readMode n, .readTarget n, .writeMode n v, .writeTarget n v] → exec i s = .next t → exec i t = .next t

/-- R24: the mode word is its fields at the positions of the table, from bit 0 upward, and nothing else. -/
def Obligations.ModeWordIsItsFields : Prop :=
  ∀ m : Word,
    m.toNat = (modeEn m).toNat + 2 ^ 1 * (modeSyncmode m).toNat + 2 ^ 3 * (modeResetmode m).toNat +
      2 ^ 4 * (modeIrqTarget m).toNat + 2 ^ 5 * (modeIrq0xffff m).toNat + 2 ^ 6 * (modeIrqrepeat m).toNat +
      2 ^ 7 * (modeIrqpulse m).toNat + 2 ^ 8 * (modeClcsrc m).toNat + 2 ^ 10 * (modeIntreq m).toNat +
      2 ^ 11 * (modeReachedTarget m).toNat + 2 ^ 12 * (modeReached0xffff m).toNat + 2 ^ 13 * (modeReserved m).toNat

/-- R153 (the spec's decision D15): every operation of a counter is refused with CounterNotConstructed while the System is not
initialized. -/
def Obligations.CounterOperationsNeedTheSystem : Prop :=
  ∀ (i : Instr) (n : CounterId) (s : State), i.counterOperation = some n → s.sys.initialized = false →
    exec i s = .refused .counterNotConstructed

/-- R151: no operation of a counter faults, for any operand, and while the System is initialized each of them steps. -/
def Obligations.CounterOperationsNeverFail : Prop :=
  (∀ (i : Instr) (n : CounterId) (s : State), i.counterOperation = some n → s.sys.initialized = true → ∃ t, exec i s = .next t) ∧
  (∀ (i : Instr) (n : CounterId) (operand : Option Word) (s : State) (f : Fault),
    i.counterOperation = some n ∨ i = .writeCounter n operand → exec i s ≠ .fault f)

/-- R152, R202 (the spec's decision D20): a write of the counter register, code `0x40 + n`, is refused with CounterWriteUnsupported,
whatever operand is presented with it or none (R151). That it has this reason in every state, the uninitialized ones included, is the
model's reading of R152 beside R153 (assumption log 6), and that it has it at every access width is its reading of R202 beside R53
(assumption log 22). -/
def Obligations.CounterWriteIsRefused : Prop :=
  (∀ (s : State) (n : CounterId) (operand : Option Word), exec (.writeCounter n operand) s = .refused .counterWriteUnsupported) ∧
  (∀ (s : State) (n : CounterId) (operand : Option Word) (width : AccessWidth) (rest : List Request), s.Unmarked →
    s.inputs.requests = { code := BitVec.ofNat 8 (0x40 + n.index), operand := operand, width := width } :: rest →
    step s = .refused .counterWriteUnsupported)

/-! ## TICK -/

/-- R145, R149: TICK, at its code, leaves a stopped counter and returns false; a running counter wraps to 0 exactly where the unbounded
sum reaches the limit, and otherwise stores the sum; it returns whether it wrapped, writes only the counter register, and calls no
adapter. Before the counters exist it is refused. -/
def Obligations.TickCountsOrWraps : Prop :=
  ∀ (s : State) (n : CounterId) (cycles : Word),
    encode (.tick n cycles) = { code := BitVec.ofNat 8 (0x80 + n.index), operand := some cycles, width := .word } ∧
    (s.sys.initialized = true →
      ∃ t, exec (.tick n cycles) s = .next t ∧ t = { s with rc := t.rc, result := t.result } ∧
        (∀ k, k ≠ n → t.counterOf k = s.counterOf k) ∧
        t.counterOf n = { s.counterOf n with counter := (t.counterOf n).counter } ∧
        (if (s.counterOf n).mode.getLsbD 0 then
            (t.counterOf n).counter = (s.counterOf n).counter ∧ t.result = .wrapped false
          else if (if (s.counterOf n).mode.getLsbD 3 then (s.counterOf n).target.toNat else 0xFFFF) ≤
              (s.counterOf n).counter.toNat + cycles.toNat
            then (t.counterOf n).counter = 0 ∧ t.result = .wrapped true
            else (t.counterOf n).counter.toNat = (s.counterOf n).counter.toNat + cycles.toNat ∧ t.result = .wrapped false)) ∧
    (s.sys.initialized = false → exec (.tick n cycles) s = .refused .counterNotConstructed)

/-- R146 (E5): a stopped counter is left as it is, and TICK returns false, for every operand, counter and target. -/
def Obligations.TickOfStoppedCounter : Prop :=
  ∀ (s : State) (n : CounterId) (cycles : Word), s.sys.initialized = true → (s.counterOf n).mode.getLsbD 0 = true →
    exec (.tick n cycles) s = .next { s with result := .wrapped false }

/-- R150: of the mode word TICK reads `en` and `resetmode` only. -/
def Obligations.TickReadsOnlyEnAndResetmode : Prop :=
  ∀ (s s' t t' : State) (n : CounterId) (cycles : Word), (s'.counterOf n).counter = (s.counterOf n).counter →
    (s'.counterOf n).target = (s.counterOf n).target →
    (s'.counterOf n).mode.getLsbD 0 = (s.counterOf n).mode.getLsbD 0 →
    (s'.counterOf n).mode.getLsbD 3 = (s.counterOf n).mode.getLsbD 3 →
    exec (.tick n cycles) s = .next t → exec (.tick n cycles) s' = .next t' →
    t'.result = t.result ∧ (t'.counterOf n).counter = (t.counterOf n).counter

/-- R148 (a): at one cycle per TICK a running counter's period is its limit, `L` = 65535 in Free-run and the target (at least 1) in
Target-reset: from 0, the first `L - 1` TICKs count and return false, and the `L`-th wraps. -/
def Obligations.TickPeriodIsTheLimit : Prop :=
  ∀ (s : State) (n : CounterId) (L : Nat), s.sys.initialized = true → (s.counterOf n).mode.getLsbD 0 = false →
    (s.counterOf n).counter = 0 → L = (if (s.counterOf n).mode.getLsbD 3 then (s.counterOf n).target.toNat else 65535) → 1 ≤ L →
    (∀ k, 1 ≤ k → k < L → ∃ t, execAll (List.replicate k (.tick n 1)) s = .next t ∧ (t.counterOf n).counter.toNat = k ∧
      t.result = .wrapped false) ∧
    (∃ t, execAll (List.replicate L (.tick n 1)) s = .next t ∧ (t.counterOf n).counter = 0 ∧ t.result = .wrapped true)

/-- R238: a target written at or below the current counter of a running Target-reset counter does not wrap at once; the next TICK
wraps, whatever its cycles, and leaves 0. -/
def Obligations.LoweredTargetWrapsAtNextTick : Prop :=
  ∀ (s : State) (n : CounterId) (v cycles : Word), s.sys.initialized = true → (s.counterOf n).mode.getLsbD 0 = false →
    (s.counterOf n).mode.getLsbD 3 = true → v.toNat % 65536 ≤ (s.counterOf n).counter.toNat →
    ∃ t u, exec (.writeTarget n v) s = .next t ∧ (t.counterOf n).counter = (s.counterOf n).counter ∧
      exec (.tick n cycles) t = .next u ∧ (u.counterOf n).counter = 0 ∧ u.result = .wrapped true

/-! ## CycleClock -/

/-- R100: CLK_CALIBRATE sets the resolution to `1000 / HOST_TICK_FREQUENCY` and marks the clock calibrated; without a frequency it
faults, and where calibrated it is refused. -/
def Obligations.CalibrateSetsResolution : Prop :=
  (encode .clkCalibrate = { code := 0x84, operand := none, width := .word }) ∧
  (∀ (s : State) (f : ℕ+), s.clk.calibrated = false → s.params.hostTickFrequency = some f →
    ∃ t, exec .clkCalibrate s = .next t ∧ t = { s with clk := t.clk, result := .none } ∧
      t.clk.calibrated = true ∧ t.clk.resolution * (f : Nat) = 1000 ∧ t.clk.lastSample = s.clk.lastSample) ∧
  (∀ s : State, s.clk.calibrated = false → s.params.hostTickFrequency = none →
    exec .clkCalibrate s = .fault .calibrationFailed) ∧
  (∀ s : State, s.clk.calibrated = true → exec .clkCalibrate s = .refused .recalibrationMidRun)

/-- R101, R200, R42: a failed calibration is final: the state it leaves is marked faulted, and the machine has no step from it (that
`State.settle` leaves the mark, and the fault that stands for "no step", are the model's: assumption log 13). -/
def Obligations.FailedCalibrationIsFinal : Prop :=
  ∀ s : State, s.clk.calibrated = false → s.params.hostTickFrequency = none →
    (s.settle (exec .clkCalibrate s)).faulted = true ∧
    step (s.settle (exec .clkCalibrate s)) = .fault .alreadyFaulted

/-- R35: the resolution is fixed once calibrated, by whatever operation follows. -/
def Obligations.ResolutionIsFixedOnceCalibrated : Prop :=
  ∀ (i : Instr) (s t : State), exec i s = .next t → s.clk.calibrated = true →
    t.clk.calibrated = true ∧ t.clk.resolution = s.clk.resolution

/-- R103: CLK_READ returns the draw and changes `clk.last_sample` alone; calibration is not needed. The draw is a listed answer, or
where none is listed the free value (assumption log 8), which is no earlier than the last sample either. -/
def Obligations.ClkReadReturnsTheDraw : Prop :=
  ∀ (s : State) (v : HostTicks), s.Draws v →
    s.clk.lastSample ≤ v ∧
    exec .clkRead s =
      .next { s with clk := { s.clk with lastSample := v }, inputs := s.inputsAfterDraw, result := .hostTicks v }

/-- R104: an answer below the last sample is no admitted draw, and no operation that draws has a step on it (the fault's name is the
model's, assumption log 8). -/
def Obligations.ClockRunningBackIsNotAdmitted : Prop :=
  ∀ (s : State) (v : HostTicks) (rest : List HostTicks), s.inputs.clockAnswers = v :: rest → ¬ s.clk.lastSample ≤ v →
    exec .clkRead s = .fault .hostClockNotAdmitted ∧
    (s.sch.started = true → exec .schedStep s = .fault .hostClockNotAdmitted) ∧
    (s.clk.calibrated = true → s.sch.started = false → exec .schedInit s = .fault .hostClockNotAdmitted)

/-- R103: the samples the block has seen never decrease, whatever operation runs. -/
def Obligations.SamplesNeverDecrease : Prop :=
  ∀ (i : Instr) (s t : State), exec i s = .next t → s.clk.lastSample ≤ t.clk.lastSample

/-! ## Scheduler -/

/-- R123: SCHED_INIT on a calibrated clock takes `previous` and `current` from its draw and zeroes everything else of the Scheduler;
before calibration, and a second time, it is refused. -/
def Obligations.SchedInitStartsTheScheduler : Prop :=
  (∀ (s : State) (v : HostTicks), s.clk.calibrated = true → s.sch.started = false → s.Draws v →
    ∃ t, exec .schedInit s = .next t ∧
      t = { s with sch := t.sch, clk := { s.clk with lastSample := v }, inputs := s.inputsAfterDraw, result := .none } ∧
      t.sch.started = true ∧ t.sch.previous = v ∧ t.sch.current = v ∧ t.sch.totalCycles = 0 ∧ t.sch.spanAccumulator = 0 ∧
      t.sch.renderTimeSpan = 0 ∧ t.sch.fpsTimeSpan = 0 ∧ t.sch.fpsCounter = 0 ∧ t.sch.fpsValue = 0) ∧
  (∀ s : State, s.clk.calibrated = false → exec .schedInit s = .refused .clockNotCalibrated) ∧
  (∀ s : State, s.clk.calibrated = true → s.sch.started = true → exec .schedInit s = .refused .schedulerAlreadyStarted)

/-- R110, R111: SCHED_STEP on a started Scheduler draws once and completes; both samples become the draw; the System's flags, the
parameters, the marks, the pending requests and the rest of the CycleClock stay. On a Scheduler not started it is refused. -/
def Obligations.SchedStepSamplesAndCompletes : Prop :=
  (∀ (s : State) (v : HostTicks), s.sch.started = true → s.Draws v →
    ∃ t, exec .schedStep s = .next t ∧
      t = { s with
        rc := t.rc, irq := t.irq, sch := t.sch, trace := t.trace, cpuReads := t.cpuReads, result := .none
        clk := { s.clk with lastSample := v }
        inputs := { s.inputsAfterDraw with cpuSteps := t.inputs.cpuSteps } } ∧
      t.sch.started = true ∧ t.sch.previous = v ∧ t.sch.current = v) ∧
  (∀ s : State, s.sch.started = false → exec .schedStep s = .refused .schedulerNotStarted)

/-- R112 to R116: the clamped span is added to the accumulator, the loop takes exactly `min(MAX_STEPS_PER_CALL, floor(A / DT_MS))`
steps of `DT_MS`, the backlog left is clamped to 250 ms, and the total grows by the steps modulo 2^64. -/
def Obligations.SchedStepDrainsTheBacklog : Prop :=
  ∀ (s t : State) (v : HostTicks), s.sch.started = true → s.Draws v → exec .schedStep s = .next t →
    t.sch.spanAccumulator = min (s.backlogOfCall v - s.stepsOfCall v * (5 / 169344)) 250 ∧
    t.sch.totalCycles = s.sch.totalCycles + BitVec.ofNat 64 (s.stepsOfCall v)

/-- R115: with a cap of at least 8,467,200 and an accumulator below `DT_MS` on entry, the loop ends by the accumulator condition and
the clamp has no effect: less than `DT_MS` is left, and it is the backlog less the steps. -/
def Obligations.LargeCapDrainsFully : Prop :=
  ∀ (s t : State) (v : HostTicks), s.sch.started = true → s.Draws v → exec .schedStep s = .next t →
    8467200 ≤ (s.params.maxStepsPerCall : Nat) → s.sch.spanAccumulator < 5 / 169344 →
    t.sch.spanAccumulator < 5 / 169344 ∧
    t.sch.spanAccumulator = s.backlogOfCall v - ⌊s.backlogOfCall v / (5 / 169344)⌋₊ * (5 / 169344)

/-- R114, R124: what the call does to the System is what that many SYS_STEPs do, and the pacing events come after theirs. -/
def Obligations.SchedStepAdvancesTheSystem : Prop :=
  ∀ (s t : State) (v : HostTicks), s.sch.started = true → s.Draws v → exec .schedStep s = .next t →
    t.rc = (sysStep^[s.stepsOfCall v] s).rc ∧ t.irq = (sysStep^[s.stepsOfCall v] s).irq ∧
    t.cpuReads = (sysStep^[s.stepsOfCall v] s).cpuReads ∧
    t.inputs.cpuSteps = (sysStep^[s.stepsOfCall v] s).inputs.cpuSteps ∧
    t.trace = (sysStep^[s.stepsOfCall v] s).trace ++ s.pacingEvents v

/-- R117, R118, R119: render and FPS pacing of one call, from the clamped span: the thresholds, the resets to 0, the published value
counting this call's render. -/
def Obligations.SchedStepPaces : Prop :=
  ∀ (s t : State) (v : HostTicks), s.sch.started = true → s.Draws v → exec .schedStep s = .next t →
    t.sch.renderTimeSpan = (if s.rendersInCall v then 0 else s.sch.renderTimeSpan + s.spanOfCall v) ∧
    t.sch.fpsTimeSpan = (if s.publishesInCall v then 0 else s.sch.fpsTimeSpan + s.spanOfCall v) ∧
    t.sch.fpsCounter = (if s.publishesInCall v then 0 else s.rendersCounted v) ∧
    t.sch.fpsValue = (if s.publishesInCall v then s.rendersCounted v else s.sch.fpsValue)

/-- R120: pacing reads the span and never the steps: two calls with the same clock, sample and pacing elements pace alike, whatever
the cap, the backlog, the System and the CPU. -/
def Obligations.PacingIgnoresTheSteps : Prop :=
  ∀ (s s' t t' : State) (v : HostTicks), s.Draws v → s'.Draws v → s'.clk = s.clk → s'.sch.previous = s.sch.previous →
    s'.sch.renderTimeSpan = s.sch.renderTimeSpan → s'.sch.fpsTimeSpan = s.sch.fpsTimeSpan →
    s'.sch.fpsCounter = s.sch.fpsCounter → s'.sch.fpsValue = s.sch.fpsValue →
    exec .schedStep s = .next t → exec .schedStep s' = .next t' →
    t'.sch.renderTimeSpan = t.sch.renderTimeSpan ∧ t'.sch.fpsTimeSpan = t.sch.fpsTimeSpan ∧
    t'.sch.fpsCounter = t.sch.fpsCounter ∧ t'.sch.fpsValue = t.sch.fpsValue

/-- R124, R222: with the System stopped or not initialized the Scheduler keeps draining, counting and pacing, while every register,
the adapter and the CPU's steps stay; only pacing events are emitted. -/
def Obligations.StoppedSystemStillDrains : Prop :=
  ∀ (s t : State) (v : HostTicks), s.sch.started = true → s.Draws v → exec .schedStep s = .next t →
    s.sys.initialized = false ∨ s.sys.running = false →
    t.rc = s.rc ∧ t.irq = s.irq ∧ t.cpuReads = s.cpuReads ∧ t.inputs.cpuSteps = s.inputs.cpuSteps ∧
    t.trace = s.trace ++ s.pacingEvents v ∧
    t.sch.totalCycles = s.sch.totalCycles + BitVec.ofNat 64 (s.stepsOfCall v)

/-! ## System -/

/-- R170: SYS_INIT, at its code, constructs three zero counters, clears the adapter's memory, and leaves the System initialized and
stopped; while initialized it is refused. -/
def Obligations.SysInitConstructs : Prop :=
  encode .sysInit = { code := 0x94, operand := none, width := .word } ∧
  (∀ s : State, s.sys.initialized = false →
    ∃ t, exec .sysInit s = .next t ∧ t = { s with rc := t.rc, irq := t.irq, sys := t.sys, result := .none } ∧
      (∀ n, (t.counterOf n).counter = 0 ∧ (t.counterOf n).mode = 0 ∧ (t.counterOf n).target = 0 ∧
        t.oneshotFired n = false ∧ t.lineLevel n = false) ∧
      t.sys.initialized = true ∧ t.sys.running = false) ∧
  (∀ s : State, s.sys.initialized = true → exec .sysInit s = .refused .alreadyInitialized)

/-- R171: SYS_RUN, at its code, sets the running flag of an initialized System, running already or not; otherwise it is refused. -/
def Obligations.SysRunSetsRunning : Prop :=
  encode .sysRun = { code := 0x98, operand := none, width := .word } ∧
  (∀ s : State, s.sys.initialized = true →
    exec .sysRun s = .next { s with sys := { s.sys with running := true }, result := .none }) ∧
  (∀ s : State, s.sys.initialized = false → exec .sysRun s = .refused .notInitialized)

/-- R172 (E8): SYS_STOP, at its code, clears the running flag in every state, changes nothing else, and a second one changes nothing. -/
def Obligations.SysStopIsIdempotent : Prop :=
  encode .sysStop = { code := 0x9C, operand := none, width := .word } ∧
  ∀ s : State, ∃ t, exec .sysStop s = .next t ∧ t = { s with sys := { s.sys with running := false }, result := .none } ∧
    exec .sysStop t = .next t

/-- R174 (E8): SYS_DEINIT, at its code, stops, releases and destroys; the Scheduler, the CycleClock and the trace survive; every
counter operation is refused after it; a second one changes nothing. That the adapter's latches and line levels stay through it is the
model's choice (assumption log 12). -/
def Obligations.SysDeinitReleasesOnce : Prop :=
  encode .sysDeinit = { code := 0xA4, operand := none, width := .word } ∧
  ∀ s : State, ∃ t, exec .sysDeinit s = .next t ∧ t = { s with rc := t.rc, sys := t.sys, result := .none } ∧
    t.sys.initialized = false ∧ (s.sys.initialized = true → t.sys.running = false) ∧
    (s.sys.initialized = false → t = { s with result := .none }) ∧
    (∀ i n, i.counterOperation = some n → exec i t = .refused .counterNotConstructed) ∧
    exec .sysDeinit t = .next t

/-- R173: a SYS_STEP issued by the host is refused in every state. -/
def Obligations.HostSysStepIsRefused : Prop :=
  ∀ s : State, exec .sysStep s = .refused .stepOutsideDrainLoop

/-- R173, R175, R205, R210, R211: an effective SYS_STEP of the drain loop runs the CPU's step first and then ticks every counter by one
cycle. The adapter writes the mode word of exactly the counters that wrap, sets the one-shot latch of exactly those that assert, and
inverts the line level of exactly those that assert with `irqpulse` 1; a SYS_STEP that is not effective changes nothing. -/
def Obligations.SysStepTicksEveryCounterOnce : Prop :=
  ∀ (s : State) (n : CounterId),
    if s.sys.initialized && s.sys.running then
      (sysStep s).counterOf n =
        { counter := (tickRegisters ((cpuStep s).counterOf n) 1).1.counter
          target := ((cpuStep s).counterOf n).target
          mode :=
            if (tickRegisters ((cpuStep s).counterOf n) 1).2 then
              adapterMode ((cpuStep s).counterOf n).mode ((cpuStep s).oneshotFired n)
            else ((cpuStep s).counterOf n).mode } ∧
      (sysStep s).oneshotFired n = (s.assertsInStep n || (cpuStep s).oneshotFired n) ∧
      (sysStep s).lineLevel n =
        (if s.assertsInStep n && ((cpuStep s).counterOf n).mode.getLsbD 7 then !(cpuStep s).lineLevel n
          else (cpuStep s).lineLevel n)
    else sysStep s = s

/-- R177, R59, R242: whatever register operations the CPU issues in a step, they do what the host's operations of the same names do one
after the other (each of which completes): the registers, the adapter's memory and the words read are theirs, and nothing else changes
but the step consumed. The ticks of that step act on what they leave. In particular a read sees the counter as the step found it, and a
target written in the step is the limit of its tick. -/
def Obligations.CpuOperationsPrecedeTheTicks : Prop :=
  (∀ (s : State) (ops : List BusOp) (rest : List (List BusOp)), s.sys.initialized = true → s.inputs.cpuSteps = ops :: rest →
    ∃ t reads, runAsHost ops s = some (t, reads) ∧
      cpuStep s =
        { s with
          rc := t.rc, irq := t.irq, cpuReads := s.cpuReads ++ reads, inputs := { s.inputs with cpuSteps := rest } } ∧
      (s.sys.running = true →
        (∀ n, ((sysStep s).counterOf n).counter = (tickRegisters (t.counterOf n) 1).1.counter ∧
          ((sysStep s).counterOf n).target = (t.counterOf n).target) ∧
        (sysStep s).cpuReads = s.cpuReads ++ reads ∧ (sysStep s).inputs = { s.inputs with cpuSteps := rest })) ∧
  (∀ (s : State) (n : CounterId) (v : Word) (rest : List (List BusOp)), s.sys.initialized = true → s.sys.running = true →
    s.inputs.cpuSteps = [.readCounter n, .writeTarget n v] :: rest →
    (sysStep s).cpuReads = s.cpuReads ++ [(s.counterOf n).counter] ∧
    ((sysStep s).counterOf n).target = v &&& 0xFFFF#32 ∧
    ((s.counterOf n).mode.getLsbD 0 = false → (s.counterOf n).mode.getLsbD 3 = true →
      v.toNat % 65536 ≤ (s.counterOf n).counter.toNat + 1 → ((sysStep s).counterOf n).counter = 0) ∧
    (sysStep s).inputs.cpuSteps = rest)

/-! ## Interrupt events -/

/-- R205 (the spec's reference policy, its decision D16), with R206 and R207: one call of the adapter, bit by bit: the latch of the
wrap's kind, `intreq` and the one-shot latch on an assertion, a pulse or the toggled line, at most one event; no other bit of the word
and nothing else of the state. -/
def Obligations.AdapterFollowsThePolicy : Prop :=
  ∀ (s : State) (n : CounterId),
    let m := (s.counterOf n).mode
    let worthy := if m.getLsbD 3 then m.getLsbD 4 else m.getLsbD 5
    let asserts := worthy && (m.getLsbD 6 || !s.oneshotFired n)
    let t := adapterOnWrap n s
    t = { s with rc := t.rc, irq := t.irq, trace := t.trace } ∧
    t.counterOf n = { s.counterOf n with mode := (t.counterOf n).mode } ∧
    (t.counterOf n).mode.getLsbD 11 = (m.getLsbD 11 || m.getLsbD 3) ∧
    (t.counterOf n).mode.getLsbD 12 = (m.getLsbD 12 || !m.getLsbD 3) ∧
    (t.counterOf n).mode.getLsbD 10 = (m.getLsbD 10 || asserts) ∧
    (∀ i, i ≠ 10 → i ≠ 11 → i ≠ 12 → (t.counterOf n).mode.getLsbD i = m.getLsbD i) ∧
    t.oneshotFired n = (asserts || s.oneshotFired n) ∧
    t.lineLevel n = (if asserts && m.getLsbD 7 then !s.lineLevel n else s.lineLevel n) ∧
    (∀ k, k ≠ n → t.counterOf k = s.counterOf k ∧ t.oneshotFired k = s.oneshotFired k ∧ t.lineLevel k = s.lineLevel k) ∧
    t.trace = s.trace ++
      (if asserts then [if m.getLsbD 7 then .irqToggle n (!s.lineLevel n) else .irqPulse n] else [])

/-- R204, R210, R211, R215: the interrupt events of one effective SYS_STEP are, in ascending index, one for each counter that wraps and
asserts, and none for any other: a pulse with `irqpulse` 0, and with `irqpulse` 1 the line at its inverted level. -/
def Obligations.OneStepEventsAreInIndexOrder : Prop :=
  ∀ s : State, s.sys.initialized = true → s.sys.running = true →
    (sysStep s).trace = s.trace ++ ([.c0, .c1, .c2].filter s.assertsInStep).map s.eventInStep

/-- R208, R213 (3): with `irqrepeat` 0, a counter asserts at most once until its mode word is rewritten, and not at all where it has
fired already: over any sequence of operations that complete, without WRITE_MODE of the counter and without SYS_INIT, with a CPU that
does not write its mode word; and over any number of SYS_STEPs with such a CPU. -/
def Obligations.OneShotAssertsAtMostOnce : Prop :=
  ∀ (s : State) (n : CounterId), (s.counterOf n).mode.getLsbD 6 = false →
    (∀ ops ∈ s.inputs.cpuSteps, noModeWrite n ops) →
    (∀ (is : List Instr) (t : State), (∀ i ∈ is, keepsModeWord n i) → execAll is s = .next t →
      ∃ events, t.trace = s.trace ++ events ∧ (irqEventsOf n events).length ≤ (if s.oneshotFired n then 0 else 1)) ∧
    (∀ k : Nat, ∃ events, (sysStep^[k] s).trace = s.trace ++ events ∧
      (irqEventsOf n events).length ≤ (if s.oneshotFired n then 0 else 1))

/-- R236: after SYS_INIT and SYS_RUN, with a CPU that only reads, every counter counts 0, 1, …, 0xFFFE, 0, …; the wraps are latched in
`reached_0xffff` and never asserted. -/
def Obligations.FreshSystemCountsFreely : Prop :=
  ∀ s : State, s.sys.initialized = false → (∀ ops ∈ s.inputs.cpuSteps, ∀ op ∈ ops, BusOp.isRead op = true) →
    ∃ t u, exec .sysInit s = .next t ∧ exec .sysRun t = .next u ∧
      ∀ (k : Nat) (n : CounterId), ((sysStep^[k] u).counterOf n).counter.toNat = k % 65535 ∧
        ((sysStep^[k] u).counterOf n).mode = (if 65535 ≤ k then 0x1000 else 0) ∧ (sysStep^[k] u).trace = s.trace

/-! ## The whole machine -/

/-- R34: a counter's registers change only by WRITE_MODE, WRITE_TARGET and TICK of that counter, by SCHED_STEP (whose SYS_STEPs tick,
call the adapter and let the CPU write), and by SYS_INIT and SYS_DEINIT. -/
def Obligations.RegistersHaveNoOtherWriter : Prop :=
  ∀ (i : Instr) (s t : State) (n : CounterId), exec i s = .next t →
    (∀ v, i ≠ .writeMode n v) → (∀ v, i ≠ .writeTarget n v) → (∀ c, i ≠ .tick n c) → i ≠ .schedStep → i ≠ .sysInit →
    i ≠ .sysDeinit → t.counterOf n = s.counterOf n

/-- R41, R149: the trace only grows, and only SCHED_STEP emits: a direct TICK gives no event. -/
def Obligations.OnlySchedStepEmits : Prop :=
  ∀ (i : Instr) (s t : State), exec i s = .next t → s.trace <+: t.trace ∧ (i ≠ .schedStep → t.trace = s.trace)

/-- R79: the pseudo-operations leave the words their expansions give: START_FREE and HALT_COUNTER the mode word, START_TARGET the
masked target and the mode word, ACK the mode word with bits 12:10 cleared and every other bit kept; each re-arms the one-shot. -/
def Obligations.PseudoOperationsExpand : Prop :=
  ∀ (s : State) (n : CounterId) (v : Word), s.sys.initialized = true →
    (∃ t, execPseudo (.startFree n) s = .next t ∧ t.counterOf n = { s.counterOf n with mode := 0 } ∧ t.oneshotFired n = false) ∧
    (∃ t, execPseudo (.startTarget n v) s = .next t ∧
      t.counterOf n = { s.counterOf n with target := v &&& 0xFFFF#32, mode := 8 } ∧ t.oneshotFired n = false) ∧
    (∃ t, execPseudo (.haltCounter n) s = .next t ∧ t.counterOf n = { s.counterOf n with mode := 1 } ∧
      t.oneshotFired n = false) ∧
    (∃ t, execPseudo (.ack n) s = .next t ∧ t.counterOf n = { s.counterOf n with mode := (t.counterOf n).mode } ∧
      (∀ i, (t.counterOf n).mode.getLsbD i = ((s.counterOf n).mode.getLsbD i && !decide (10 ≤ i ∧ i ≤ 12))) ∧
      t.oneshotFired n = false)
end

