-- ==== Sys2Proof/Laws/Decode.lean ====
section
/-! SUPPORT. The decoder and the encoder on codes, and the operand of an operation: the pieces their agreement is made of. -/

namespace Sys2Proof

/-- The index field round trips (30_encoding.md R71). -/
@[simp] theorem decodeCounter_encodeCounter (n : CounterId) : decodeCounter (encodeCounter n) = some n := by
  cases n <;> rfl

/-- The code of each operation selects that operation (R73, R74). -/
@[simp] theorem decodeCode_encodeCode (op : Opcode) : decodeCode (encodeCode op) = some op := by
  cases op <;> first | rfl | (rename_i n; cases n <;> rfl)

/-- A code that selects an operation is that operation's code: no bit of a code is ignored (R75, R76). -/
theorem encodeCode_of_decodeCode : ∀ (c : Code) (op : Opcode), decodeCode c = some op → encodeCode op = c := by
  intro c
  have h : ∀ c : Code, ∀ op ∈ decodeCode c, encodeCode op = c := by decide +kernel
  exact fun op hop => h c op hop

/-- A whole word is never narrow, whatever the operation (20_memory.md R53). -/
@[simp] theorem narrowRequest_word (op : Opcode) : narrowRequest op .word = false := by
  simp [narrowRequest]

/-- An operand attached is the operand encoded (R70). -/
theorem attachOperand_iff (op : Opcode) (operand : Option Word) (i : Instr) :
    attachOperand op operand = some i ↔ opcodeOf i = op ∧ encodeOperand i = operand := by
  cases op <;> cases operand <;> cases i <;>
    simp [attachOperand, takeNoOperand, opcodeOf, encodeOperand, eq_comm, and_comm]

/-- What the decoder accepts: the code selects an operation, the access is not narrow, and the operand fits. -/
theorem decode_ok_iff (r : Request) (i : Instr) :
    decode r = .ok i ↔
      decodeCode r.code = some (opcodeOf i) ∧ narrowRequest (opcodeOf i) r.width = false ∧ encodeOperand i = r.operand := by
  unfold decode
  cases hc : decodeCode r.code with
  | none => simp
  | some op =>
    have key := attachOperand_iff op r.operand i
    cases hn : narrowRequest op r.width with
    | true => simp only [hn, if_true, reduceCtorEq, Option.some.injEq, false_iff]; rintro ⟨rfl, h, -⟩; simp [hn] at h
    | false =>
      cases ha : attachOperand op r.operand <;> simp only [ha, reduceCtorEq, Option.some.injEq, false_iff] at key <;>
        simp only [ha, hn, Bool.false_eq_true, if_false, reduceCtorEq, Except.ok.injEq, Option.some.injEq, false_iff, key] <;>
        grind

end Sys2Proof
end

