-- ==== Sys2Proof/Laws/Flags.lean ====
section
/-! SUPPORT. The mode word bit by bit: replacing one bit, and what the adapter writes back. -/

namespace Sys2Proof.Machine

/-- A bit replaced reads as the new value, and every other bit as before (10_state.md R24). -/
theorem getLsbD_withBit (m : Word) (i j : Nat) (b : Bool) (hi : i < 32) :
    (withBit m i b).getLsbD j = if j = i then b else m.getLsbD j := by
  have hone : (1#32 <<< i).getLsbD j = decide (j = i) := by
    by_cases hj : j = i
    · subst hj; simp [hi]
    · by_cases h3 : j < i
      · simp [h3, hj]
      · have : j - i ≠ 0 := by omega
        simp [this, hj]
  unfold withBit
  cases b
  · simp only [Bool.false_eq_true, if_false, BitVec.getLsbD_and, BitVec.getLsbD_not, hone]
    by_cases hj : j = i
    · subst hj; simp
    · by_cases h2 : j < 32
      · simp [hj, h2]
      · simp [hj, BitVec.getLsbD_of_ge m j (by omega)]
  · simp only [if_true, BitVec.getLsbD_or, hone]
    by_cases hj : j = i <;> simp [hj]

/-- What the adapter writes back: the latch of the wrap's kind, `intreq` on an assertion, and no other bit (60_exceptions.md R206,
R212). -/
theorem getLsbD_adapterMode (m : Word) (fired : Bool) (j : Nat) :
    (adapterMode m fired).getLsbD j =
      if j = 10 then (m.getLsbD 10 || wrapAsserts m fired)
      else if j = 11 then (m.getLsbD 11 || m.getLsbD 3)
      else if j = 12 then (m.getLsbD 12 || !m.getLsbD 3)
      else m.getLsbD j := by
  unfold adapterMode latchReached withIntreq withReachedTarget withReached0xffff wrapIsTargetEvent modeResetmode
  cases hw : wrapAsserts m fired <;> cases h3 : m.getLsbD 3 <;>
    simp only [Bool.false_eq_true, if_false, if_true, getLsbD_withBit _ _ _ _ (show 10 < 32 by decide),
      getLsbD_withBit _ _ _ _ (show 11 < 32 by decide), getLsbD_withBit _ _ _ _ (show 12 < 32 by decide),
      Config.intreqPending]
  all_goals
    by_cases a : j = 10
    · subst a; simp
    · by_cases b : j = 11
      · subst b; simp
      · by_cases c : j = 12
        · subst c; simp
        · simp [a, b, c]

end Sys2Proof.Machine
end

