-- ==== Sys2Proof/Laws/State.lean ====
section
/-! SUPPORT. One lemma for each field of State under each named update, true by unfolding the update once. -/

namespace Sys2Proof.Machine

/-! `State.setCounterOf`. -/

@[simp] theorem State.setCounterOf_rc (s : State) (n : CounterId) (c : RootCounter) :
    (s.setCounterOf n c).rc = perSet s.rc n c :=
  rfl
@[simp] theorem State.setCounterOf_clk (s : State) (n : CounterId) (c : RootCounter) : (s.setCounterOf n c).clk = s.clk :=
  rfl
@[simp] theorem State.setCounterOf_sch (s : State) (n : CounterId) (c : RootCounter) : (s.setCounterOf n c).sch = s.sch :=
  rfl
@[simp] theorem State.setCounterOf_sys (s : State) (n : CounterId) (c : RootCounter) : (s.setCounterOf n c).sys = s.sys :=
  rfl
@[simp] theorem State.setCounterOf_irq (s : State) (n : CounterId) (c : RootCounter) : (s.setCounterOf n c).irq = s.irq :=
  rfl
@[simp] theorem State.setCounterOf_trace (s : State) (n : CounterId) (c : RootCounter) :
    (s.setCounterOf n c).trace = s.trace :=
  rfl
@[simp] theorem State.setCounterOf_result (s : State) (n : CounterId) (c : RootCounter) :
    (s.setCounterOf n c).result = s.result :=
  rfl
@[simp] theorem State.setCounterOf_cpuReads (s : State) (n : CounterId) (c : RootCounter) :
    (s.setCounterOf n c).cpuReads = s.cpuReads :=
  rfl
@[simp] theorem State.setCounterOf_faulted (s : State) (n : CounterId) (c : RootCounter) :
    (s.setCounterOf n c).faulted = s.faulted :=
  rfl
@[simp] theorem State.setCounterOf_refused (s : State) (n : CounterId) (c : RootCounter) :
    (s.setCounterOf n c).refused = s.refused :=
  rfl
@[simp] theorem State.setCounterOf_params (s : State) (n : CounterId) (c : RootCounter) :
    (s.setCounterOf n c).params = s.params :=
  rfl
@[simp] theorem State.setCounterOf_inputs (s : State) (n : CounterId) (c : RootCounter) :
    (s.setCounterOf n c).inputs = s.inputs :=
  rfl

/-! `State.setMode`. -/

@[simp] theorem State.setMode_rc (s : State) (n : CounterId) (m : Word) :
    (s.setMode n m).rc = perSet s.rc n { s.counterOf n with mode := m } :=
  rfl
@[simp] theorem State.setMode_clk (s : State) (n : CounterId) (m : Word) : (s.setMode n m).clk = s.clk :=
  rfl
@[simp] theorem State.setMode_sch (s : State) (n : CounterId) (m : Word) : (s.setMode n m).sch = s.sch :=
  rfl
@[simp] theorem State.setMode_sys (s : State) (n : CounterId) (m : Word) : (s.setMode n m).sys = s.sys :=
  rfl
@[simp] theorem State.setMode_irq (s : State) (n : CounterId) (m : Word) : (s.setMode n m).irq = s.irq :=
  rfl
@[simp] theorem State.setMode_trace (s : State) (n : CounterId) (m : Word) : (s.setMode n m).trace = s.trace :=
  rfl
@[simp] theorem State.setMode_result (s : State) (n : CounterId) (m : Word) : (s.setMode n m).result = s.result :=
  rfl
@[simp] theorem State.setMode_cpuReads (s : State) (n : CounterId) (m : Word) : (s.setMode n m).cpuReads = s.cpuReads :=
  rfl
@[simp] theorem State.setMode_faulted (s : State) (n : CounterId) (m : Word) : (s.setMode n m).faulted = s.faulted :=
  rfl
@[simp] theorem State.setMode_refused (s : State) (n : CounterId) (m : Word) : (s.setMode n m).refused = s.refused :=
  rfl
@[simp] theorem State.setMode_params (s : State) (n : CounterId) (m : Word) : (s.setMode n m).params = s.params :=
  rfl
@[simp] theorem State.setMode_inputs (s : State) (n : CounterId) (m : Word) : (s.setMode n m).inputs = s.inputs :=
  rfl

/-! `State.setTarget`. -/

@[simp] theorem State.setTarget_rc (s : State) (n : CounterId) (t : Word) :
    (s.setTarget n t).rc = perSet s.rc n { s.counterOf n with target := t } :=
  rfl
@[simp] theorem State.setTarget_clk (s : State) (n : CounterId) (t : Word) : (s.setTarget n t).clk = s.clk :=
  rfl
@[simp] theorem State.setTarget_sch (s : State) (n : CounterId) (t : Word) : (s.setTarget n t).sch = s.sch :=
  rfl
@[simp] theorem State.setTarget_sys (s : State) (n : CounterId) (t : Word) : (s.setTarget n t).sys = s.sys :=
  rfl
@[simp] theorem State.setTarget_irq (s : State) (n : CounterId) (t : Word) : (s.setTarget n t).irq = s.irq :=
  rfl
@[simp] theorem State.setTarget_trace (s : State) (n : CounterId) (t : Word) : (s.setTarget n t).trace = s.trace :=
  rfl
@[simp] theorem State.setTarget_result (s : State) (n : CounterId) (t : Word) : (s.setTarget n t).result = s.result :=
  rfl
@[simp] theorem State.setTarget_cpuReads (s : State) (n : CounterId) (t : Word) : (s.setTarget n t).cpuReads = s.cpuReads :=
  rfl
@[simp] theorem State.setTarget_faulted (s : State) (n : CounterId) (t : Word) : (s.setTarget n t).faulted = s.faulted :=
  rfl
@[simp] theorem State.setTarget_refused (s : State) (n : CounterId) (t : Word) : (s.setTarget n t).refused = s.refused :=
  rfl
@[simp] theorem State.setTarget_params (s : State) (n : CounterId) (t : Word) : (s.setTarget n t).params = s.params :=
  rfl
@[simp] theorem State.setTarget_inputs (s : State) (n : CounterId) (t : Word) : (s.setTarget n t).inputs = s.inputs :=
  rfl

/-! `State.setOneshotFired`. -/

@[simp] theorem State.setOneshotFired_rc (s : State) (n : CounterId) (b : Bool) : (s.setOneshotFired n b).rc = s.rc :=
  rfl
@[simp] theorem State.setOneshotFired_clk (s : State) (n : CounterId) (b : Bool) : (s.setOneshotFired n b).clk = s.clk :=
  rfl
@[simp] theorem State.setOneshotFired_sch (s : State) (n : CounterId) (b : Bool) : (s.setOneshotFired n b).sch = s.sch :=
  rfl
@[simp] theorem State.setOneshotFired_sys (s : State) (n : CounterId) (b : Bool) : (s.setOneshotFired n b).sys = s.sys :=
  rfl
@[simp] theorem State.setOneshotFired_irq (s : State) (n : CounterId) (b : Bool) :
    (s.setOneshotFired n b).irq = { s.irq with oneshotFired := perSet s.irq.oneshotFired n b } :=
  rfl
@[simp] theorem State.setOneshotFired_trace (s : State) (n : CounterId) (b : Bool) :
    (s.setOneshotFired n b).trace = s.trace :=
  rfl
@[simp] theorem State.setOneshotFired_result (s : State) (n : CounterId) (b : Bool) :
    (s.setOneshotFired n b).result = s.result :=
  rfl
@[simp] theorem State.setOneshotFired_cpuReads (s : State) (n : CounterId) (b : Bool) :
    (s.setOneshotFired n b).cpuReads = s.cpuReads :=
  rfl
@[simp] theorem State.setOneshotFired_faulted (s : State) (n : CounterId) (b : Bool) :
    (s.setOneshotFired n b).faulted = s.faulted :=
  rfl
@[simp] theorem State.setOneshotFired_refused (s : State) (n : CounterId) (b : Bool) :
    (s.setOneshotFired n b).refused = s.refused :=
  rfl
@[simp] theorem State.setOneshotFired_params (s : State) (n : CounterId) (b : Bool) :
    (s.setOneshotFired n b).params = s.params :=
  rfl
@[simp] theorem State.setOneshotFired_inputs (s : State) (n : CounterId) (b : Bool) :
    (s.setOneshotFired n b).inputs = s.inputs :=
  rfl

/-! `State.setLineLevel`. -/

@[simp] theorem State.setLineLevel_rc (s : State) (n : CounterId) (b : Bool) : (s.setLineLevel n b).rc = s.rc :=
  rfl
@[simp] theorem State.setLineLevel_clk (s : State) (n : CounterId) (b : Bool) : (s.setLineLevel n b).clk = s.clk :=
  rfl
@[simp] theorem State.setLineLevel_sch (s : State) (n : CounterId) (b : Bool) : (s.setLineLevel n b).sch = s.sch :=
  rfl
@[simp] theorem State.setLineLevel_sys (s : State) (n : CounterId) (b : Bool) : (s.setLineLevel n b).sys = s.sys :=
  rfl
@[simp] theorem State.setLineLevel_irq (s : State) (n : CounterId) (b : Bool) :
    (s.setLineLevel n b).irq = { s.irq with lineLevel := perSet s.irq.lineLevel n b } :=
  rfl
@[simp] theorem State.setLineLevel_trace (s : State) (n : CounterId) (b : Bool) : (s.setLineLevel n b).trace = s.trace :=
  rfl
@[simp] theorem State.setLineLevel_result (s : State) (n : CounterId) (b : Bool) : (s.setLineLevel n b).result = s.result :=
  rfl
@[simp] theorem State.setLineLevel_cpuReads (s : State) (n : CounterId) (b : Bool) :
    (s.setLineLevel n b).cpuReads = s.cpuReads :=
  rfl
@[simp] theorem State.setLineLevel_faulted (s : State) (n : CounterId) (b : Bool) :
    (s.setLineLevel n b).faulted = s.faulted :=
  rfl
@[simp] theorem State.setLineLevel_refused (s : State) (n : CounterId) (b : Bool) :
    (s.setLineLevel n b).refused = s.refused :=
  rfl
@[simp] theorem State.setLineLevel_params (s : State) (n : CounterId) (b : Bool) : (s.setLineLevel n b).params = s.params :=
  rfl
@[simp] theorem State.setLineLevel_inputs (s : State) (n : CounterId) (b : Bool) : (s.setLineLevel n b).inputs = s.inputs :=
  rfl

/-! `State.setSch`. -/

@[simp] theorem State.setSch_rc (s : State) (x : Scheduler) : (s.setSch x).rc = s.rc :=
  rfl
@[simp] theorem State.setSch_clk (s : State) (x : Scheduler) : (s.setSch x).clk = s.clk :=
  rfl
@[simp] theorem State.setSch_sch (s : State) (x : Scheduler) : (s.setSch x).sch = x :=
  rfl
@[simp] theorem State.setSch_sys (s : State) (x : Scheduler) : (s.setSch x).sys = s.sys :=
  rfl
@[simp] theorem State.setSch_irq (s : State) (x : Scheduler) : (s.setSch x).irq = s.irq :=
  rfl
@[simp] theorem State.setSch_trace (s : State) (x : Scheduler) : (s.setSch x).trace = s.trace :=
  rfl
@[simp] theorem State.setSch_result (s : State) (x : Scheduler) : (s.setSch x).result = s.result :=
  rfl
@[simp] theorem State.setSch_cpuReads (s : State) (x : Scheduler) : (s.setSch x).cpuReads = s.cpuReads :=
  rfl
@[simp] theorem State.setSch_faulted (s : State) (x : Scheduler) : (s.setSch x).faulted = s.faulted :=
  rfl
@[simp] theorem State.setSch_refused (s : State) (x : Scheduler) : (s.setSch x).refused = s.refused :=
  rfl
@[simp] theorem State.setSch_params (s : State) (x : Scheduler) : (s.setSch x).params = s.params :=
  rfl
@[simp] theorem State.setSch_inputs (s : State) (x : Scheduler) : (s.setSch x).inputs = s.inputs :=
  rfl

/-! `State.setSys`. -/

@[simp] theorem State.setSys_rc (s : State) (x : SystemFacade) : (s.setSys x).rc = s.rc :=
  rfl
@[simp] theorem State.setSys_clk (s : State) (x : SystemFacade) : (s.setSys x).clk = s.clk :=
  rfl
@[simp] theorem State.setSys_sch (s : State) (x : SystemFacade) : (s.setSys x).sch = s.sch :=
  rfl
@[simp] theorem State.setSys_sys (s : State) (x : SystemFacade) : (s.setSys x).sys = x :=
  rfl
@[simp] theorem State.setSys_irq (s : State) (x : SystemFacade) : (s.setSys x).irq = s.irq :=
  rfl
@[simp] theorem State.setSys_trace (s : State) (x : SystemFacade) : (s.setSys x).trace = s.trace :=
  rfl
@[simp] theorem State.setSys_result (s : State) (x : SystemFacade) : (s.setSys x).result = s.result :=
  rfl
@[simp] theorem State.setSys_cpuReads (s : State) (x : SystemFacade) : (s.setSys x).cpuReads = s.cpuReads :=
  rfl
@[simp] theorem State.setSys_faulted (s : State) (x : SystemFacade) : (s.setSys x).faulted = s.faulted :=
  rfl
@[simp] theorem State.setSys_refused (s : State) (x : SystemFacade) : (s.setSys x).refused = s.refused :=
  rfl
@[simp] theorem State.setSys_params (s : State) (x : SystemFacade) : (s.setSys x).params = s.params :=
  rfl
@[simp] theorem State.setSys_inputs (s : State) (x : SystemFacade) : (s.setSys x).inputs = s.inputs :=
  rfl

/-! `State.setClk`. -/

@[simp] theorem State.setClk_rc (s : State) (x : CycleClock) : (s.setClk x).rc = s.rc :=
  rfl
@[simp] theorem State.setClk_clk (s : State) (x : CycleClock) : (s.setClk x).clk = x :=
  rfl
@[simp] theorem State.setClk_sch (s : State) (x : CycleClock) : (s.setClk x).sch = s.sch :=
  rfl
@[simp] theorem State.setClk_sys (s : State) (x : CycleClock) : (s.setClk x).sys = s.sys :=
  rfl
@[simp] theorem State.setClk_irq (s : State) (x : CycleClock) : (s.setClk x).irq = s.irq :=
  rfl
@[simp] theorem State.setClk_trace (s : State) (x : CycleClock) : (s.setClk x).trace = s.trace :=
  rfl
@[simp] theorem State.setClk_result (s : State) (x : CycleClock) : (s.setClk x).result = s.result :=
  rfl
@[simp] theorem State.setClk_cpuReads (s : State) (x : CycleClock) : (s.setClk x).cpuReads = s.cpuReads :=
  rfl
@[simp] theorem State.setClk_faulted (s : State) (x : CycleClock) : (s.setClk x).faulted = s.faulted :=
  rfl
@[simp] theorem State.setClk_refused (s : State) (x : CycleClock) : (s.setClk x).refused = s.refused :=
  rfl
@[simp] theorem State.setClk_params (s : State) (x : CycleClock) : (s.setClk x).params = s.params :=
  rfl
@[simp] theorem State.setClk_inputs (s : State) (x : CycleClock) : (s.setClk x).inputs = s.inputs :=
  rfl

/-! `State.emit`. -/

@[simp] theorem State.emit_rc (s : State) (e : Event) : (s.emit e).rc = s.rc :=
  rfl
@[simp] theorem State.emit_clk (s : State) (e : Event) : (s.emit e).clk = s.clk :=
  rfl
@[simp] theorem State.emit_sch (s : State) (e : Event) : (s.emit e).sch = s.sch :=
  rfl
@[simp] theorem State.emit_sys (s : State) (e : Event) : (s.emit e).sys = s.sys :=
  rfl
@[simp] theorem State.emit_irq (s : State) (e : Event) : (s.emit e).irq = s.irq :=
  rfl
@[simp] theorem State.emit_trace (s : State) (e : Event) : (s.emit e).trace = s.trace ++ [e] :=
  rfl
@[simp] theorem State.emit_result (s : State) (e : Event) : (s.emit e).result = s.result :=
  rfl
@[simp] theorem State.emit_cpuReads (s : State) (e : Event) : (s.emit e).cpuReads = s.cpuReads :=
  rfl
@[simp] theorem State.emit_faulted (s : State) (e : Event) : (s.emit e).faulted = s.faulted :=
  rfl
@[simp] theorem State.emit_refused (s : State) (e : Event) : (s.emit e).refused = s.refused :=
  rfl
@[simp] theorem State.emit_params (s : State) (e : Event) : (s.emit e).params = s.params :=
  rfl
@[simp] theorem State.emit_inputs (s : State) (e : Event) : (s.emit e).inputs = s.inputs :=
  rfl

/-! `State.setResult`. -/

@[simp] theorem State.setResult_rc (s : State) (r : Result) : (s.setResult r).rc = s.rc :=
  rfl
@[simp] theorem State.setResult_clk (s : State) (r : Result) : (s.setResult r).clk = s.clk :=
  rfl
@[simp] theorem State.setResult_sch (s : State) (r : Result) : (s.setResult r).sch = s.sch :=
  rfl
@[simp] theorem State.setResult_sys (s : State) (r : Result) : (s.setResult r).sys = s.sys :=
  rfl
@[simp] theorem State.setResult_irq (s : State) (r : Result) : (s.setResult r).irq = s.irq :=
  rfl
@[simp] theorem State.setResult_trace (s : State) (r : Result) : (s.setResult r).trace = s.trace :=
  rfl
@[simp] theorem State.setResult_result (s : State) (r : Result) : (s.setResult r).result = r :=
  rfl
@[simp] theorem State.setResult_cpuReads (s : State) (r : Result) : (s.setResult r).cpuReads = s.cpuReads :=
  rfl
@[simp] theorem State.setResult_faulted (s : State) (r : Result) : (s.setResult r).faulted = s.faulted :=
  rfl
@[simp] theorem State.setResult_refused (s : State) (r : Result) : (s.setResult r).refused = s.refused :=
  rfl
@[simp] theorem State.setResult_params (s : State) (r : Result) : (s.setResult r).params = s.params :=
  rfl
@[simp] theorem State.setResult_inputs (s : State) (r : Result) : (s.setResult r).inputs = s.inputs :=
  rfl

/-! `State.recordCpuRead`. -/

@[simp] theorem State.recordCpuRead_rc (s : State) (v : Word) : (s.recordCpuRead v).rc = s.rc :=
  rfl
@[simp] theorem State.recordCpuRead_clk (s : State) (v : Word) : (s.recordCpuRead v).clk = s.clk :=
  rfl
@[simp] theorem State.recordCpuRead_sch (s : State) (v : Word) : (s.recordCpuRead v).sch = s.sch :=
  rfl
@[simp] theorem State.recordCpuRead_sys (s : State) (v : Word) : (s.recordCpuRead v).sys = s.sys :=
  rfl
@[simp] theorem State.recordCpuRead_irq (s : State) (v : Word) : (s.recordCpuRead v).irq = s.irq :=
  rfl
@[simp] theorem State.recordCpuRead_trace (s : State) (v : Word) : (s.recordCpuRead v).trace = s.trace :=
  rfl
@[simp] theorem State.recordCpuRead_result (s : State) (v : Word) : (s.recordCpuRead v).result = s.result :=
  rfl
@[simp] theorem State.recordCpuRead_cpuReads (s : State) (v : Word) : (s.recordCpuRead v).cpuReads = s.cpuReads ++ [v] :=
  rfl
@[simp] theorem State.recordCpuRead_faulted (s : State) (v : Word) : (s.recordCpuRead v).faulted = s.faulted :=
  rfl
@[simp] theorem State.recordCpuRead_refused (s : State) (v : Word) : (s.recordCpuRead v).refused = s.refused :=
  rfl
@[simp] theorem State.recordCpuRead_params (s : State) (v : Word) : (s.recordCpuRead v).params = s.params :=
  rfl
@[simp] theorem State.recordCpuRead_inputs (s : State) (v : Word) : (s.recordCpuRead v).inputs = s.inputs :=
  rfl

/-! `State.setRequests`. -/

@[simp] theorem State.setRequests_rc (s : State) (rs : List Request) : (s.setRequests rs).rc = s.rc :=
  rfl
@[simp] theorem State.setRequests_clk (s : State) (rs : List Request) : (s.setRequests rs).clk = s.clk :=
  rfl
@[simp] theorem State.setRequests_sch (s : State) (rs : List Request) : (s.setRequests rs).sch = s.sch :=
  rfl
@[simp] theorem State.setRequests_sys (s : State) (rs : List Request) : (s.setRequests rs).sys = s.sys :=
  rfl
@[simp] theorem State.setRequests_irq (s : State) (rs : List Request) : (s.setRequests rs).irq = s.irq :=
  rfl
@[simp] theorem State.setRequests_trace (s : State) (rs : List Request) : (s.setRequests rs).trace = s.trace :=
  rfl
@[simp] theorem State.setRequests_result (s : State) (rs : List Request) : (s.setRequests rs).result = s.result :=
  rfl
@[simp] theorem State.setRequests_cpuReads (s : State) (rs : List Request) : (s.setRequests rs).cpuReads = s.cpuReads :=
  rfl
@[simp] theorem State.setRequests_faulted (s : State) (rs : List Request) : (s.setRequests rs).faulted = s.faulted :=
  rfl
@[simp] theorem State.setRequests_refused (s : State) (rs : List Request) : (s.setRequests rs).refused = s.refused :=
  rfl
@[simp] theorem State.setRequests_params (s : State) (rs : List Request) : (s.setRequests rs).params = s.params :=
  rfl
@[simp] theorem State.setRequests_inputs (s : State) (rs : List Request) :
    (s.setRequests rs).inputs = { s.inputs with requests := rs } :=
  rfl

/-! `State.setCpuSteps`. -/

@[simp] theorem State.setCpuSteps_rc (s : State) (l : List (List BusOp)) : (s.setCpuSteps l).rc = s.rc :=
  rfl
@[simp] theorem State.setCpuSteps_clk (s : State) (l : List (List BusOp)) : (s.setCpuSteps l).clk = s.clk :=
  rfl
@[simp] theorem State.setCpuSteps_sch (s : State) (l : List (List BusOp)) : (s.setCpuSteps l).sch = s.sch :=
  rfl
@[simp] theorem State.setCpuSteps_sys (s : State) (l : List (List BusOp)) : (s.setCpuSteps l).sys = s.sys :=
  rfl
@[simp] theorem State.setCpuSteps_irq (s : State) (l : List (List BusOp)) : (s.setCpuSteps l).irq = s.irq :=
  rfl
@[simp] theorem State.setCpuSteps_trace (s : State) (l : List (List BusOp)) : (s.setCpuSteps l).trace = s.trace :=
  rfl
@[simp] theorem State.setCpuSteps_result (s : State) (l : List (List BusOp)) : (s.setCpuSteps l).result = s.result :=
  rfl
@[simp] theorem State.setCpuSteps_cpuReads (s : State) (l : List (List BusOp)) : (s.setCpuSteps l).cpuReads = s.cpuReads :=
  rfl
@[simp] theorem State.setCpuSteps_faulted (s : State) (l : List (List BusOp)) : (s.setCpuSteps l).faulted = s.faulted :=
  rfl
@[simp] theorem State.setCpuSteps_refused (s : State) (l : List (List BusOp)) : (s.setCpuSteps l).refused = s.refused :=
  rfl
@[simp] theorem State.setCpuSteps_params (s : State) (l : List (List BusOp)) : (s.setCpuSteps l).params = s.params :=
  rfl
@[simp] theorem State.setCpuSteps_inputs (s : State) (l : List (List BusOp)) :
    (s.setCpuSteps l).inputs = { s.inputs with cpuSteps := l } :=
  rfl

/-! `State.takeSample`. -/

@[simp] theorem State.takeSample_rc (s : State) (v : HostTicks) (l : List HostTicks) : (s.takeSample v l).rc = s.rc :=
  rfl
@[simp] theorem State.takeSample_clk (s : State) (v : HostTicks) (l : List HostTicks) :
    (s.takeSample v l).clk = { s.clk with lastSample := v } :=
  rfl
@[simp] theorem State.takeSample_sch (s : State) (v : HostTicks) (l : List HostTicks) : (s.takeSample v l).sch = s.sch :=
  rfl
@[simp] theorem State.takeSample_sys (s : State) (v : HostTicks) (l : List HostTicks) : (s.takeSample v l).sys = s.sys :=
  rfl
@[simp] theorem State.takeSample_irq (s : State) (v : HostTicks) (l : List HostTicks) : (s.takeSample v l).irq = s.irq :=
  rfl
@[simp] theorem State.takeSample_trace (s : State) (v : HostTicks) (l : List HostTicks) :
    (s.takeSample v l).trace = s.trace :=
  rfl
@[simp] theorem State.takeSample_result (s : State) (v : HostTicks) (l : List HostTicks) :
    (s.takeSample v l).result = s.result :=
  rfl
@[simp] theorem State.takeSample_cpuReads (s : State) (v : HostTicks) (l : List HostTicks) :
    (s.takeSample v l).cpuReads = s.cpuReads :=
  rfl
@[simp] theorem State.takeSample_faulted (s : State) (v : HostTicks) (l : List HostTicks) :
    (s.takeSample v l).faulted = s.faulted :=
  rfl
@[simp] theorem State.takeSample_refused (s : State) (v : HostTicks) (l : List HostTicks) :
    (s.takeSample v l).refused = s.refused :=
  rfl
@[simp] theorem State.takeSample_params (s : State) (v : HostTicks) (l : List HostTicks) :
    (s.takeSample v l).params = s.params :=
  rfl
@[simp] theorem State.takeSample_inputs (s : State) (v : HostTicks) (l : List HostTicks) :
    (s.takeSample v l).inputs = { s.inputs with clockAnswers := l, clockDraws := s.inputs.clockDraws + 1 } :=
  rfl

end Sys2Proof.Machine
end

