-- ==== Sys2Proof/Laws/Outcomes.lean ====
section
/-! SUPPORT. What the operations that can stop answer: the guard of a counter operation, and the host clock draw. -/

namespace Sys2Proof.Machine

/-- A counter operation answers a next state only where the System is initialized (42_rootcounter.md R153). -/
theorem requireCounter_next {s t u : State} (h : requireCounter s (.next u) = .next t) : s.sys.initialized = true ∧ t = u := by
  unfold requireCounter at h
  split at h
  · rename_i hi
    injection h with h
    exact ⟨hi, h.symm⟩
  · cases h

theorem requireCounter_initialized {s : State} (h : s.sys.initialized = true) (o : Host.Outcome State Fault Refusal) :
    requireCounter s o = o := by
  simp [requireCounter, h]

theorem requireCounter_absent {s : State} (h : s.sys.initialized = false) (o : Host.Outcome State Fault Refusal) :
    requireCounter s o = .refused .counterNotConstructed := by
  simp [requireCounter, h]

theorem freeSample_ge (last : HostTicks) (k : Nat) : last ≤ freeSample last k := by
  unfold freeSample
  split
  · assumption
  · exact BitVec.le_refl _

/-- Everything a draw can do: it takes a sample no earlier than the last one, and consumes a listed answer where there is one
(40_cycleclock.md R103). -/
theorem drawHostClock_some {s t : State} {v : HostTicks} (h : drawHostClock s = some (v, t)) :
    s.clk.lastSample ≤ v ∧ ∃ rest, t = s.takeSample v rest := by
  unfold drawHostClock at h
  split at h
  · split at h
    · simp only [Option.some.injEq, Prod.mk.injEq] at h
      obtain ⟨rfl, rfl⟩ := h
      exact ⟨by assumption, _, rfl⟩
    · cases h
  · simp only [Option.some.injEq, Prod.mk.injEq] at h
    obtain ⟨rfl, rfl⟩ := h
    exact ⟨freeSample_ge _ _, _, rfl⟩

/-- A draw changes the last sample and the inputs that answer it, and nothing else (40_cycleclock.md R103). -/
theorem drawHostClock_frame {s t : State} {v : HostTicks} (h : drawHostClock s = some (v, t)) :
    t = { s with clk := { s.clk with lastSample := v }, inputs := t.inputs } ∧ t.inputs.requests = s.inputs.requests := by
  obtain ⟨-, rest, rfl⟩ := drawHostClock_some h
  exact ⟨rfl, rfl⟩

theorem drawHostClock_listed {s : State} {v : HostTicks} {rest : List HostTicks} (h : s.inputs.clockAnswers = v :: rest)
    (hv : s.clk.lastSample ≤ v) : drawHostClock s = some (v, s.takeSample v rest) := by
  simp [drawHostClock, h, hv]

theorem drawHostClock_earlier {s : State} {v : HostTicks} {rest : List HostTicks} (h : s.inputs.clockAnswers = v :: rest)
    (hv : ¬ s.clk.lastSample ≤ v) : drawHostClock s = none := by
  simp [drawHostClock, h, hv]

end Sys2Proof.Machine
end

