-- ==== Sys2Proof/Laws/PerInstr.lean ====
section
/-! SUPPORT. Statements made of each operation as syntax: the request that encodes it is one of the opcode table's, and the code is a
legal one exactly where the operation is legal (30_encoding.md R73 to R76). -/

namespace Sys2Proof.Laws.CodeLegal

/-- The encoding is a request of the table, with a legal code exactly where the operation is legal. -/
def Statement (i : Instr) : Prop :=
  (encode i).WellFormed = true ∧ (i.legal = true ↔ (encode i).code ∈ legalCodes)

/-- A word request with an operand is the table's where its code is one of those that take an operand. -/
theorem wellFormed_operand {c : Code} (value : Word) (h : c ∈ operandCodes) :
    Request.WellFormed { code := c, operand := some value, width := .word } = true := by
  have key : ∀ c ∈ operandCodes, c ∈ legalCodes ++ counterWriteCodes ∧ c ∉ plainCodes := by decide
  simp [Request.WellFormed, Request.widthFits, Request.operandFits, key c h, -List.mem_append]

/-- A request with the code of a counter write is the table's, whatever operand and width it presents. -/
theorem wellFormed_counterWrite {c : Code} (operand : Option Word) (width : AccessWidth) (h : c ∈ counterWriteCodes) :
    Request.WellFormed { code := c, operand := operand, width := width } = true := by
  have key : ∀ c ∈ counterWriteCodes, c ∈ legalCodes ++ counterWriteCodes ∧ c ∉ plainCodes := by decide
  simp [Request.WellFormed, Request.widthFits, Request.operandFits, key c h, h, -List.mem_append]

theorem readCounter (n : CounterId) : Statement (.readCounter n) := by
  unfold Statement; cases n <;> decide

theorem readMode (n : CounterId) : Statement (.readMode n) := by
  unfold Statement; cases n <;> decide

theorem writeMode (n : CounterId) (value : Word) : Statement (.writeMode n value) := by
  cases n <;> exact ⟨wellFormed_operand value (by simp only [opcodeOf]; decide), by simp only [Instr.legal, encode, opcodeOf]; decide⟩

theorem readTarget (n : CounterId) : Statement (.readTarget n) := by
  unfold Statement; cases n <;> decide

theorem writeTarget (n : CounterId) (value : Word) : Statement (.writeTarget n value) := by
  cases n <;> exact ⟨wellFormed_operand value (by simp only [opcodeOf]; decide), by simp only [Instr.legal, encode, opcodeOf]; decide⟩

theorem tick (n : CounterId) (value : Word) : Statement (.tick n value) := by
  cases n <;> exact ⟨wellFormed_operand value (by simp only [opcodeOf]; decide), by simp only [Instr.legal, encode, opcodeOf]; decide⟩

theorem clkCalibrate : Statement .clkCalibrate := by
  unfold Statement; decide

theorem clkRead : Statement .clkRead := by
  unfold Statement; decide

theorem schedInit : Statement .schedInit := by
  unfold Statement; decide

theorem schedStep : Statement .schedStep := by
  unfold Statement; decide

theorem sysInit : Statement .sysInit := by
  unfold Statement; decide

theorem sysRun : Statement .sysRun := by
  unfold Statement; decide

theorem sysStop : Statement .sysStop := by
  unfold Statement; decide

theorem sysStep : Statement .sysStep := by
  unfold Statement; decide

theorem sysDeinit : Statement .sysDeinit := by
  unfold Statement; decide

theorem writeCounter (n : CounterId) (operand : Option Word) : Statement (.writeCounter n operand) := by
  cases n <;> exact ⟨wellFormed_counterWrite operand .word (by simp only [opcodeOf]; decide),
    by simp only [Instr.legal, encode, opcodeOf]; decide⟩

end Sys2Proof.Laws.CodeLegal
end

