-- ==== Sys2Proof/Laws/Registers.lean ====
section
/-! SUPPORT. Reading after writing, for the registers of the counters and the adapter's memory, and what TICK of one counter can do. -/

namespace Sys2Proof.Machine

@[simp] theorem perGet_perSet_same {α : Type} (p : PerCounter α) (n : CounterId) (a : α) : perGet (perSet p n a) n = a := by
  cases n <;> rfl

@[simp] theorem perGet_perSet_ne {α : Type} (p : PerCounter α) {n k : CounterId} (a : α) (h : k ≠ n) :
    perGet (perSet p n a) k = perGet p k := by
  cases n <;> cases k <;> first | rfl | exact absurd rfl h

@[simp] theorem perGet_replicate {α : Type} (a : α) (n : CounterId) : perGet (PerCounter.replicate a) n = a := by
  cases n <;> rfl

@[simp] theorem perSet_perGet {α : Type} (p : PerCounter α) (n : CounterId) : perSet p n (perGet p n) = p := by
  cases n <;> rfl

/-- Two families of values are equal when they agree at every counter. -/
theorem perCounter_ext {α : Type} {p q : PerCounter α} (h : ∀ n, perGet p n = perGet q n) : p = q := by
  obtain ⟨a, b, c⟩ := p
  obtain ⟨x, y, z⟩ := q
  have h0 := h .c0
  have h1 := h .c1
  have h2 := h .c2
  simp only [perGet] at h0 h1 h2
  rw [h0, h1, h2]

theorem counterOf_eq (s : State) (n : CounterId) : s.counterOf n = perGet s.rc n := rfl
theorem oneshotFired_eq (s : State) (n : CounterId) : s.oneshotFired n = perGet s.irq.oneshotFired n := rfl
theorem lineLevel_eq (s : State) (n : CounterId) : s.lineLevel n = perGet s.irq.lineLevel n := rfl

/-- The registers of counter `n` depend on `rc` alone. -/
theorem counterOf_congr {s t : State} (h : t.rc = s.rc) (n : CounterId) : t.counterOf n = s.counterOf n := by
  simp [counterOf_eq, h]

theorem oneshotFired_congr {s t : State} (h : t.irq = s.irq) (n : CounterId) : t.oneshotFired n = s.oneshotFired n := by
  simp [oneshotFired_eq, h]

theorem lineLevel_congr {s t : State} (h : t.irq = s.irq) (n : CounterId) : t.lineLevel n = s.lineLevel n := by
  simp [lineLevel_eq, h]

@[simp] theorem counterOf_setCounterOf_same (s : State) (n : CounterId) (c : RootCounter) :
    (s.setCounterOf n c).counterOf n = c := by
  simp [counterOf_eq]

@[simp] theorem counterOf_setCounterOf_ne (s : State) {n k : CounterId} (c : RootCounter) (h : k ≠ n) :
    (s.setCounterOf n c).counterOf k = s.counterOf k := by
  simp [counterOf_eq, h]

@[simp] theorem counterOf_setMode_same (s : State) (n : CounterId) (m : Word) :
    (s.setMode n m).counterOf n = { s.counterOf n with mode := m } := by
  simp [counterOf_eq]

@[simp] theorem counterOf_setMode_ne (s : State) {n k : CounterId} (m : Word) (h : k ≠ n) :
    (s.setMode n m).counterOf k = s.counterOf k := by
  simp [counterOf_eq, h]

@[simp] theorem counterOf_setTarget_same (s : State) (n : CounterId) (t : Word) :
    (s.setTarget n t).counterOf n = { s.counterOf n with target := t } := by
  simp [counterOf_eq]

@[simp] theorem counterOf_setTarget_ne (s : State) {n k : CounterId} (t : Word) (h : k ≠ n) :
    (s.setTarget n t).counterOf k = s.counterOf k := by
  simp [counterOf_eq, h]

@[simp] theorem oneshotFired_setOneshotFired_same (s : State) (n : CounterId) (b : Bool) :
    (s.setOneshotFired n b).oneshotFired n = b := by
  simp [oneshotFired_eq]

@[simp] theorem oneshotFired_setOneshotFired_ne (s : State) {n k : CounterId} (b : Bool) (h : k ≠ n) :
    (s.setOneshotFired n b).oneshotFired k = s.oneshotFired k := by
  simp [oneshotFired_eq, h]

@[simp] theorem lineLevel_setLineLevel_same (s : State) (n : CounterId) (b : Bool) : (s.setLineLevel n b).lineLevel n = b := by
  simp [lineLevel_eq]

@[simp] theorem lineLevel_setLineLevel_ne (s : State) {n k : CounterId} (b : Bool) (h : k ≠ n) :
    (s.setLineLevel n b).lineLevel k = s.lineLevel k := by
  simp [lineLevel_eq, h]

/-! TICK. -/

/-- Everything TICK can do to a counter's registers (42_rootcounter.md R145): stopped, wrapped, or counted. -/
theorem tickRegisters_cases (c : RootCounter) (cycles : Word) :
    (modeEn c.mode = true ∧ tickRegisters c cycles = (c, false)) ∨
    (modeEn c.mode = false ∧ wrapLimit c.mode c.target ≤ tickSum c.counter cycles ∧
      tickRegisters c cycles = ({ c with counter := 0 }, true)) ∨
    (modeEn c.mode = false ∧ tickSum c.counter cycles < wrapLimit c.mode c.target ∧
      tickRegisters c cycles = ({ c with counter := BitVec.ofNat 32 (tickSum c.counter cycles) }, false)) := by
  unfold tickRegisters
  by_cases he : modeEn c.mode = true
  · exact .inl ⟨he, by simp [he]⟩
  · by_cases hl : wrapLimit c.mode c.target ≤ tickSum c.counter cycles
    · exact .inr (.inl ⟨by simpa using he, hl, by simp [he, hl]⟩)
    · exact .inr (.inr ⟨by simpa using he, by omega, by simp [he, hl]⟩)

/-- TICK never writes the target or the mode word (R149). -/
@[simp] theorem tickRegisters_target (c : RootCounter) (cycles : Word) : (tickRegisters c cycles).1.target = c.target := by
  rcases tickRegisters_cases c cycles with ⟨_, h⟩ | ⟨_, _, h⟩ | ⟨_, _, h⟩ <;> rw [h]

@[simp] theorem tickRegisters_mode (c : RootCounter) (cycles : Word) : (tickRegisters c cycles).1.mode = c.mode := by
  rcases tickRegisters_cases c cycles with ⟨_, h⟩ | ⟨_, _, h⟩ | ⟨_, _, h⟩ <;> rw [h]

/-- The wrap limit is at most 0xFFFF for a target in range (R148). -/
theorem wrapLimit_le {mode target : Word} (h : target.toNat ≤ 0xFFFF) : wrapLimit mode target ≤ 0xFFFF := by
  unfold wrapLimit
  split <;> omega

theorem wrapLimit_lt_word (mode target : Word) : wrapLimit mode target < 2 ^ 32 := by
  unfold wrapLimit
  split
  · exact target.isLt
  · norm_num

/-- A sum below the limit is stored without loss (R145). -/
theorem counted_toNat {c : RootCounter} {cycles : Word} (h : tickSum c.counter cycles < wrapLimit c.mode c.target) :
    (BitVec.ofNat 32 (tickSum c.counter cycles)).toNat = tickSum c.counter cycles := by
  have := wrapLimit_lt_word c.mode c.target
  rw [BitVec.toNat_ofNat]
  exact Nat.mod_eq_of_lt (by omega)

@[simp] theorem counterOf_tickCounter_same (s : State) (n : CounterId) (cycles : Word) :
    (tickCounter n cycles s).counterOf n = (tickRegisters (s.counterOf n) cycles).1 := by
  simp [tickCounter]

@[simp] theorem counterOf_tickCounter_ne (s : State) {n k : CounterId} (cycles : Word) (h : k ≠ n) :
    (tickCounter n cycles s).counterOf k = s.counterOf k := by
  simp [tickCounter, h]

/-- TICK changes the counter registers and nothing else (R149). -/
theorem tickCounter_frame (n : CounterId) (cycles : Word) (s : State) :
    tickCounter n cycles s = { s with rc := (tickCounter n cycles s).rc } :=
  rfl

/-- A bus WRITE_MODE changes the mode word and the one-shot latch of its counter (R142). -/
theorem busWriteMode_frame (n : CounterId) (value : Word) (s : State) :
    busWriteMode n value s = { s with rc := (busWriteMode n value s).rc, irq := (busWriteMode n value s).irq } :=
  rfl

/-- WRITE_TARGET changes the target of its counter (R144). -/
theorem busWriteTarget_frame (n : CounterId) (value : Word) (s : State) :
    busWriteTarget n value s = { s with rc := (busWriteTarget n value s).rc } :=
  rfl

/-- A masked target fits in 16 bits (10_state.md R22). -/
theorem targetOperand_toNat_le (value : Word) : (targetOperand value).toNat ≤ 0xFFFF := by
  unfold targetOperand
  rw [BitVec.toNat_and]
  exact Nat.and_le_right

end Sys2Proof.Machine
end

