-- ==== Sys2Proof/Laws/System.lean ====
section
/-! SUPPORT. What the adapter, one counter's part of SYS_STEP, the CPU's step and SYS_STEP can do, and what they leave alone. -/

namespace Sys2Proof.Machine

/-! The adapter. -/

/-- The adapter writes the status bits of its counter's mode word (60_exceptions.md R206). -/
@[simp] theorem counterOf_adapterOnWrap_same (n : CounterId) (s : State) :
    (adapterOnWrap n s).counterOf n =
      { s.counterOf n with mode := adapterMode (s.counterOf n).mode (s.oneshotFired n) } := by
  unfold adapterOnWrap signalIrq
  dsimp only
  split
  · split <;> simp [counterOf_eq]
  · simp

@[simp] theorem counterOf_adapterOnWrap_ne (n : CounterId) {k : CounterId} (s : State) (h : k ≠ n) :
    (adapterOnWrap n s).counterOf k = s.counterOf k := by
  unfold adapterOnWrap signalIrq
  dsimp only
  split
  · split <;> simp [counterOf_eq, h]
  · simp [h]

/-- The adapter changes the registers, its own memory and the trace, and nothing else. -/
theorem adapterOnWrap_frame (n : CounterId) (s : State) :
    adapterOnWrap n s =
      { s with rc := (adapterOnWrap n s).rc, irq := (adapterOnWrap n s).irq, trace := (adapterOnWrap n s).trace } := by
  unfold adapterOnWrap signalIrq
  dsimp only
  split
  · split <;> rfl
  · rfl

@[simp] theorem oneshotFired_adapterOnWrap_same (n : CounterId) (s : State) :
    (adapterOnWrap n s).oneshotFired n = (wrapAsserts (s.counterOf n).mode (s.oneshotFired n) || s.oneshotFired n) := by
  unfold adapterOnWrap signalIrq
  dsimp only
  split
  · rename_i h
    split <;> simp [oneshotFired_eq] <;> simp [← oneshotFired_eq, h]
  · rename_i h
    simp only [Bool.not_eq_true] at h
    simp only [h, Bool.false_or]
    rfl

@[simp] theorem oneshotFired_adapterOnWrap_ne (n : CounterId) {k : CounterId} (s : State) (h : k ≠ n) :
    (adapterOnWrap n s).oneshotFired k = s.oneshotFired k := by
  unfold adapterOnWrap signalIrq
  dsimp only
  split
  · split <;> simp [oneshotFired_eq, h]
  · simp [oneshotFired_eq]

/-- The event the adapter emits for an assertion (R210, R211). -/
def irqEvent (n : CounterId) (s : State) : Event :=
  if modeIrqpulse (s.counterOf n).mode then .irqToggle n (!s.lineLevel n) else .irqPulse n

/-- The adapter emits one event on an assertion and none otherwise (R205). -/
theorem trace_adapterOnWrap (n : CounterId) (s : State) :
    (adapterOnWrap n s).trace =
      s.trace ++ (if wrapAsserts (s.counterOf n).mode (s.oneshotFired n) then [irqEvent n s] else []) := by
  unfold adapterOnWrap signalIrq irqEvent
  dsimp only
  split
  · split <;> simp [lineLevel_eq]
  · simp

/-- The adapter inverts the line of its counter on a toggling assertion, and no line otherwise (60_exceptions.md R210, R211). -/
theorem lineLevel_adapterOnWrap (n k : CounterId) (s : State) :
    (adapterOnWrap n s).lineLevel k =
      if k = n ∧ wrapAsserts (s.counterOf n).mode (s.oneshotFired n) = true ∧ modeIrqpulse (s.counterOf n).mode = true then
        !s.lineLevel n
      else s.lineLevel k := by
  unfold adapterOnWrap signalIrq
  dsimp only
  split
  · rename_i h
    split
    · rename_i h2
      by_cases hk : k = n
      · subst hk; simp [lineLevel_eq, h, h2]
      · simp [lineLevel_eq, hk]
    · rename_i h2
      simp [lineLevel_eq, h2]
  · rename_i h
    simp [lineLevel_eq, h]

/-! One counter's part of SYS_STEP. -/

theorem tickWithAdapter_frame (n : CounterId) (s : State) :
    tickWithAdapter n s =
      { s with rc := (tickWithAdapter n s).rc, irq := (tickWithAdapter n s).irq, trace := (tickWithAdapter n s).trace } := by
  unfold tickWithAdapter
  split
  · rw [adapterOnWrap_frame]; rfl
  · rfl

/-- What becomes of the counter that ticks: TICK, and the adapter's status bits where it wrapped (43_system.md R173). -/
theorem counterOf_tickWithAdapter_same (n : CounterId) (s : State) :
    (tickWithAdapter n s).counterOf n =
      { (tickRegisters (s.counterOf n) Config.stepCycles).1 with
        mode :=
          if tickWraps n Config.stepCycles s then adapterMode (s.counterOf n).mode (s.oneshotFired n)
          else (s.counterOf n).mode } := by
  unfold tickWithAdapter
  split
  · simp only [counterOf_adapterOnWrap_same, counterOf_tickCounter_same, tickRegisters_mode]
    rfl
  · simp only [counterOf_tickCounter_same]
    rw [← tickRegisters_mode (s.counterOf n) Config.stepCycles]

@[simp] theorem counterOf_tickWithAdapter_ne (n : CounterId) {k : CounterId} (s : State) (h : k ≠ n) :
    (tickWithAdapter n s).counterOf k = s.counterOf k := by
  unfold tickWithAdapter
  split <;> simp [h]

@[simp] theorem oneshotFired_tickWithAdapter_ne (n : CounterId) {k : CounterId} (s : State) (h : k ≠ n) :
    (tickWithAdapter n s).oneshotFired k = s.oneshotFired k := by
  unfold tickWithAdapter
  split
  · simp only [oneshotFired_adapterOnWrap_ne n _ h]
    rfl
  · rfl

theorem oneshotFired_tickWithAdapter_same (n : CounterId) (s : State) :
    (tickWithAdapter n s).oneshotFired n =
      ((tickWraps n Config.stepCycles s && wrapAsserts (s.counterOf n).mode (s.oneshotFired n)) || s.oneshotFired n) := by
  unfold tickWithAdapter
  split
  · rename_i h
    simp only [oneshotFired_adapterOnWrap_same, counterOf_tickCounter_same, tickRegisters_mode, h, Bool.true_and]
    rfl
  · rename_i h
    simp only [Bool.not_eq_true] at h
    simp only [h, Bool.false_and, Bool.false_or]
    rfl

/-- One counter's part of SYS_STEP inverts the line of its counter on a wrap with a toggling assertion, and no other line. -/
theorem lineLevel_tickWithAdapter (n k : CounterId) (s : State) :
    (tickWithAdapter n s).lineLevel k =
      if k = n ∧ tickWraps n Config.stepCycles s = true ∧ wrapAsserts (s.counterOf n).mode (s.oneshotFired n) = true ∧
          modeIrqpulse (s.counterOf n).mode = true then
        !s.lineLevel n
      else s.lineLevel k := by
  have hl : ∀ k, (tickCounter n Config.stepCycles s).lineLevel k = s.lineLevel k := fun _ => rfl
  have ho : (tickCounter n Config.stepCycles s).oneshotFired n = s.oneshotFired n := rfl
  unfold tickWithAdapter
  split
  · rename_i h
    simp only [lineLevel_adapterOnWrap, counterOf_tickCounter_same, tickRegisters_mode, h, hl, ho, true_and]
  · rename_i h
    simp [h, hl]

@[simp] theorem lineLevel_tickWithAdapter_ne (n : CounterId) {k : CounterId} (s : State) (h : k ≠ n) :
    (tickWithAdapter n s).lineLevel k = s.lineLevel k := by
  simp [lineLevel_tickWithAdapter, h]

/-- The interrupt events of one counter in one SYS_STEP: at most one, on a wrap that asserts (60_exceptions.md R204). -/
theorem trace_tickWithAdapter (n : CounterId) (s : State) :
    (tickWithAdapter n s).trace =
      s.trace ++
        (if tickWraps n Config.stepCycles s && wrapAsserts (s.counterOf n).mode (s.oneshotFired n) then [irqEvent n s] else []) := by
  have hl : (tickCounter n Config.stepCycles s).lineLevel n = s.lineLevel n := rfl
  have ho : (tickCounter n Config.stepCycles s).oneshotFired n = s.oneshotFired n := rfl
  have ht : (tickCounter n Config.stepCycles s).trace = s.trace := rfl
  unfold tickWithAdapter
  split
  · rename_i h
    simp only [trace_adapterOnWrap, irqEvent, counterOf_tickCounter_same, tickRegisters_mode, h, Bool.true_and, hl, ho, ht]
  · rename_i h
    simp [h, ht]

@[simp] theorem tickWithAdapter_inputs (n : CounterId) (s : State) : (tickWithAdapter n s).inputs = s.inputs := by
  rw [tickWithAdapter_frame]
@[simp] theorem tickWithAdapter_cpuReads (n : CounterId) (s : State) : (tickWithAdapter n s).cpuReads = s.cpuReads := by
  rw [tickWithAdapter_frame]

/-! The CPU's step. -/

theorem runBusOp_frame (op : BusOp) (s : State) :
    runBusOp s op =
      { s with rc := (runBusOp s op).rc, irq := (runBusOp s op).irq, cpuReads := (runBusOp s op).cpuReads } := by
  cases op <;> rfl

theorem runBusOps_frame (ops : List BusOp) (s : State) :
    runBusOps ops s =
      { s with rc := (runBusOps ops s).rc, irq := (runBusOps ops s).irq, cpuReads := (runBusOps ops s).cpuReads } := by
  induction ops generalizing s with
  | nil => rfl
  | cons op ops ih =>
    simp only [runBusOps]
    rw [ih (runBusOp s op), runBusOp_frame op s]

/-- The CPU's step changes registers, the adapter's latches, its own reads, and the steps still to come; nothing else. -/
theorem cpuStep_frame (s : State) :
    cpuStep s =
      { s with
        rc := (cpuStep s).rc
        irq := (cpuStep s).irq
        cpuReads := (cpuStep s).cpuReads
        inputs := { s.inputs with cpuSteps := s.inputs.cpuSteps.tail } } := by
  unfold cpuStep
  split
  · rename_i h
    obtain ⟨rc, clk, sch, sys, irq, tr, res, cr, f, r, p, inp⟩ := s
    obtain ⟨a, b, c, d⟩ := inp
    simp only at h
    subst h
    rfl
  · rename_i ops rest h
    rw [runBusOps_frame]
    simp [h]

/-- The part of the state SYS_STEP reads. -/
def State.systemView (s : State) : PerCounter RootCounter × InterruptAdapter × List Event × List Word × List (List BusOp) × SystemFacade :=
  (s.rc, s.irq, s.trace, s.cpuReads, s.inputs.cpuSteps, s.sys)

theorem systemView_iff {s t : State} : t.systemView = s.systemView ↔
    t.rc = s.rc ∧ t.irq = s.irq ∧ t.trace = s.trace ∧ t.cpuReads = s.cpuReads ∧ t.inputs.cpuSteps = s.inputs.cpuSteps ∧
      t.sys = s.sys := by
  simp [State.systemView]

theorem adapterOnWrap_view (n : CounterId) {s t : State} (h : t.systemView = s.systemView) :
    (adapterOnWrap n t).systemView = (adapterOnWrap n s).systemView := by
  obtain ⟨h1, h2, h3, h4, h5, h6⟩ := systemView_iff.mp h
  have hc := counterOf_congr h1 n
  have ho := oneshotFired_congr h2 n
  have hl := lineLevel_congr h2 n
  unfold adapterOnWrap signalIrq
  simp only [hc, ho]
  split
  · split <;>
      simp [State.systemView, h1, h2, h3, h4, h5, h6, counterOf_eq, lineLevel_eq]
  · simp [State.systemView, h1, h2, h3, h4, h5, h6, counterOf_eq]

theorem tickWithAdapter_view (n : CounterId) {s t : State} (h : t.systemView = s.systemView) :
    (tickWithAdapter n t).systemView = (tickWithAdapter n s).systemView := by
  obtain ⟨h1, h2, h3, h4, h5, h6⟩ := systemView_iff.mp h
  have hc := counterOf_congr h1 n
  have ht : (tickCounter n Config.stepCycles t).systemView = (tickCounter n Config.stepCycles s).systemView := by
    simp [State.systemView, tickCounter, hc, h1, h2, h3, h4, h5, h6]
  unfold tickWithAdapter tickWraps
  rw [hc]
  split
  · exact adapterOnWrap_view n ht
  · exact ht

theorem runBusOps_view (ops : List BusOp) {s t : State} (h : t.systemView = s.systemView) :
    (runBusOps ops t).systemView = (runBusOps ops s).systemView := by
  induction ops generalizing s t with
  | nil => exact h
  | cons op ops ih =>
    apply ih
    obtain ⟨h1, h2, h3, h4, h5, h6⟩ := systemView_iff.mp h
    cases op <;>
      simp [runBusOp, busWriteMode, busWriteTarget, State.systemView, counterOf_eq, h1, h2, h3, h4, h5, h6]

theorem cpuStep_view {s t : State} (h : t.systemView = s.systemView) : (cpuStep t).systemView = (cpuStep s).systemView := by
  obtain ⟨h1, h2, h3, h4, h5, h6⟩ := systemView_iff.mp h
  unfold cpuStep
  rw [h5]
  split
  · exact h
  · apply runBusOps_view
    simp [State.systemView, h1, h2, h3, h4, h6]

/-! SYS_STEP. -/

/-- SYS_STEP reads the registers, the adapter, the trace, the CPU's reads and steps, and the System's flags, and nothing else. -/
theorem sysStep_view {s t : State} (h : t.systemView = s.systemView) : (sysStep t).systemView = (sysStep s).systemView := by
  have he : stepEffective t = stepEffective s := by
    obtain ⟨_, _, _, _, _, h6⟩ := systemView_iff.mp h
    simp [stepEffective, h6]
  unfold sysStep
  rw [he]
  split
  · exact tickWithAdapter_view _ (tickWithAdapter_view _ (tickWithAdapter_view _ (cpuStep_view h)))
  · exact h

theorem sysStep_idle {s : State} (h : stepEffective s = false) : sysStep s = s := by
  simp [sysStep, h]

/-- SYS_STEP changes the registers, the adapter, the trace, the CPU's reads and the CPU's steps still to come; nothing else: not the
Scheduler, the CycleClock, the System's flags, the marks or the host's inputs. -/
theorem sysStep_frame (s : State) :
    sysStep s =
      { s with
        rc := (sysStep s).rc
        irq := (sysStep s).irq
        trace := (sysStep s).trace
        cpuReads := (sysStep s).cpuReads
        inputs := { s.inputs with cpuSteps := (sysStep s).inputs.cpuSteps } } := by
  unfold sysStep
  split
  · rw [tickWithAdapter_frame .c2, tickWithAdapter_frame .c1, tickWithAdapter_frame .c0, cpuStep_frame]
  · rfl

@[simp] theorem sysStep_sch (s : State) : (sysStep s).sch = s.sch := by rw [sysStep_frame]
@[simp] theorem sysStep_clk (s : State) : (sysStep s).clk = s.clk := by rw [sysStep_frame]
@[simp] theorem sysStep_sys (s : State) : (sysStep s).sys = s.sys := by rw [sysStep_frame]
@[simp] theorem sysStep_result (s : State) : (sysStep s).result = s.result := by rw [sysStep_frame]
@[simp] theorem sysStep_faulted (s : State) : (sysStep s).faulted = s.faulted := by rw [sysStep_frame]
@[simp] theorem sysStep_refused (s : State) : (sysStep s).refused = s.refused := by rw [sysStep_frame]
@[simp] theorem sysStep_params (s : State) : (sysStep s).params = s.params := by rw [sysStep_frame]

end Sys2Proof.Machine
end

