-- ==== Sys2Proof/Laws/Scheduler.lean ====
section
/-! SUPPORT. The drain loop and the pacing of a Scheduler call: what each stage writes and what it leaves alone. -/

namespace Sys2Proof.Machine

theorem dtMs_pos : 0 < Config.dtMs := by
  norm_num [Config.dtMs, Config.cpuClockHz]

/-- One iteration is SYS_STEP with `DT_MS` consumed (41_scheduler.md R114). -/
@[simp] theorem drainOnce_sch (s : State) :
    (drainOnce s).sch = { s.sch with spanAccumulator := s.sch.spanAccumulator - Config.dtMs } := by
  simp [drainOnce]

@[simp] theorem drainOnce_rc (s : State) : (drainOnce s).rc = (sysStep s).rc := rfl
@[simp] theorem drainOnce_irq (s : State) : (drainOnce s).irq = (sysStep s).irq := rfl
@[simp] theorem drainOnce_trace (s : State) : (drainOnce s).trace = (sysStep s).trace := rfl
@[simp] theorem drainOnce_cpuReads (s : State) : (drainOnce s).cpuReads = (sysStep s).cpuReads := rfl
@[simp] theorem drainOnce_inputs (s : State) : (drainOnce s).inputs = (sysStep s).inputs := rfl
@[simp] theorem drainOnce_clk (s : State) : (drainOnce s).clk = s.clk := by simp [drainOnce]
@[simp] theorem drainOnce_sys (s : State) : (drainOnce s).sys = s.sys := by simp [drainOnce]
@[simp] theorem drainOnce_params (s : State) : (drainOnce s).params = s.params := by simp [drainOnce]
@[simp] theorem drainOnce_result (s : State) : (drainOnce s).result = s.result := by simp [drainOnce]
@[simp] theorem drainOnce_faulted (s : State) : (drainOnce s).faulted = s.faulted := by simp [drainOnce]
@[simp] theorem drainOnce_refused (s : State) : (drainOnce s).refused = s.refused := by simp [drainOnce]

theorem drainLoop_stop {cap : Nat} {s : State} (h : ¬ Config.dtMs ≤ s.sch.spanAccumulator) : drainLoop cap s = (s, 0) := by
  cases cap with
  | zero => rfl
  | succ cap => simp [drainLoop, h]

theorem drainLoop_go {cap : Nat} {s : State} (h : Config.dtMs ≤ s.sch.spanAccumulator) :
    drainLoop (cap + 1) s = ((drainLoop cap (drainOnce s)).1, (drainLoop cap (drainOnce s)).2 + 1) := by
  simp [drainLoop, h]

/-- What a property of single iterations gives for the whole loop: a property that holds before and that every iteration with a full
`DT_MS` left keeps, holds after. -/
theorem drainLoop_induction {P : State → Prop} (hstep : ∀ s, Config.dtMs ≤ s.sch.spanAccumulator → P s → P (drainOnce s))
    (cap : Nat) (s : State) (h : P s) : P (drainLoop cap s).1 := by
  induction cap generalizing s with
  | zero => exact h
  | succ cap ih =>
    by_cases hd : Config.dtMs ≤ s.sch.spanAccumulator
    · rw [drainLoop_go hd]
      exact ih _ (hstep s hd h)
    · rw [drainLoop_stop hd]
      exact h

/-- The loop ends in the state its iterations lead to. -/
theorem drainLoop_iterate (cap : Nat) (s : State) : (drainLoop cap s).1 = drainOnce^[(drainLoop cap s).2] s := by
  induction cap generalizing s with
  | zero => rfl
  | succ cap ih =>
    by_cases hd : Config.dtMs ≤ s.sch.spanAccumulator
    · rw [drainLoop_go hd]
      simp only [Function.iterate_succ, Function.comp]
      exact ih _
    · rw [drainLoop_stop hd]
      rfl

/-- The loop keeps everything but the registers, the adapter, the trace, the CPU's reads and steps, and the accumulator. -/
theorem drainLoop_frame (cap : Nat) (s : State) :
    (drainLoop cap s).1.clk = s.clk ∧ (drainLoop cap s).1.sys = s.sys ∧ (drainLoop cap s).1.params = s.params ∧
      (drainLoop cap s).1.faulted = s.faulted ∧ (drainLoop cap s).1.refused = s.refused ∧
      (drainLoop cap s).1.result = s.result := by
  refine drainLoop_induction (P := fun t => t.clk = s.clk ∧ t.sys = s.sys ∧ t.params = s.params ∧ t.faulted = s.faulted ∧
    t.refused = s.refused ∧ t.result = s.result) ?_ cap s ⟨rfl, rfl, rfl, rfl, rfl, rfl⟩
  intro t _ h
  simpa using h

theorem drainOnce_view (s : State) : (drainOnce s).systemView = (sysStep s).systemView := rfl

/-- What `k` iterations do to the System is what `k` SYS_STEPs do. -/
theorem drainOnce_iterate_view (k : Nat) {s t : State} (h : t.systemView = s.systemView) :
    (drainOnce^[k] t).systemView = (sysStep^[k] s).systemView := by
  induction k generalizing s t with
  | zero => exact h
  | succ k ih =>
    simp only [Function.iterate_succ, Function.comp]
    exact ih ((drainOnce_view t).trans (sysStep_view h))

/-- Of the Scheduler the loop writes the accumulator alone. -/
theorem drainLoop_sch (cap : Nat) (s : State) :
    (drainLoop cap s).1.sch = { s.sch with spanAccumulator := (drainLoop cap s).1.sch.spanAccumulator } := by
  refine drainLoop_induction (P := fun t => t.sch = { s.sch with spanAccumulator := t.sch.spanAccumulator }) ?_ cap s rfl
  intro t _ h
  rw [drainOnce_sch]
  rw [h]

end Sys2Proof.Machine
end

