-- ==== Sys2Proof/Machine/Assembler.lean ====
section
/-! DEFINITION. The assembler text of 30_encoding.md R78: one operation per line, printed and read, with the trailing comment
`; clock=<u64>` for a host clock draw; and a program of such lines laid into the inputs of a state. Text is a list of characters. -/

namespace Sys2Proof.Machine

/-- `c<n>`. -/
def counterText : CounterId → String
  | .c0 => "c0"
  | .c1 => "c1"
  | .c2 => "c2"

/-- The text of an operation; WRITE_COUNTER is no legal operation and has none (R78). Numbers are printed in decimal. -/
def instrText : Instr → Option String
  | .readCounter n => some ("READ_COUNTER " ++ counterText n)
  | .readMode n => some ("READ_MODE " ++ counterText n)
  | .readTarget n => some ("READ_TARGET " ++ counterText n)
  | .writeMode n v => some ("WRITE_MODE " ++ counterText n ++ ", " ++ Nat.repr v.toNat)
  | .writeTarget n v => some ("WRITE_TARGET " ++ counterText n ++ ", " ++ Nat.repr v.toNat)
  | .tick n v => some ("TICK " ++ counterText n ++ ", " ++ Nat.repr v.toNat)
  | .clkCalibrate => some "CLK_CALIBRATE"
  | .clkRead => some "CLK_READ"
  | .schedInit => some "SCHED_INIT"
  | .schedStep => some "SCHED_STEP"
  | .sysInit => some "SYS_INIT"
  | .sysRun => some "SYS_RUN"
  | .sysStop => some "SYS_STOP"
  | .sysStep => some "SYS_STEP"
  | .sysDeinit => some "SYS_DEINIT"
  | .writeCounter _ _ => none

/-- The tokens of a line, separated by spaces and commas; `cur` is the token being read, reversed. -/
def tokens : List Char → List Char → List (List Char)
  | [], cur => if cur = [] then [] else [cur.reverse]
  | c :: cs, cur =>
    if c = ' ' ∨ c = ',' then (if cur = [] then tokens cs [] else cur.reverse :: tokens cs [])
    else tokens cs (c :: cur)

/-- The value of a digit in a base. -/
def digitValue (base : Nat) (c : Char) : Option Nat :=
  let v :=
    if '0' ≤ c ∧ c ≤ '9' then c.toNat - '0'.toNat
    else if 'a' ≤ c ∧ c ≤ 'f' then c.toNat - 'a'.toNat + 10
    else if 'A' ≤ c ∧ c ≤ 'F' then c.toNat - 'A'.toNat + 10
    else base
  if v < base then some v else none

/-- The value of a string of digits after `acc`. -/
def digitsValue (base : Nat) : List Char → Nat → Option Nat
  | [], acc => some acc
  | c :: cs, acc =>
    match digitValue base c with
    | some d => digitsValue base cs (acc * base + d)
    | none => none

/-- A number, decimal or `0x` hexadecimal (R78). -/
def numberValue : List Char → Option Nat
  | [] => none
  | '0' :: 'x' :: [] => none
  | '0' :: 'x' :: ds => digitsValue 16 ds 0
  | ds => digitsValue 10 ds 0

/-- A number that fits in `w` bits. -/
def numberBits (w : Nat) (t : List Char) : Option (BitVec w) :=
  match numberValue t with
  | some v => if v < 2 ^ w then some (BitVec.ofNat w v) else none
  | none => none

/-- `c0`, `c1` or `c2`. -/
def counterToken (t : List Char) : Option CounterId :=
  if t = ['c', '0'] then some .c0
  else if t = ['c', '1'] then some .c1
  else if t = ['c', '2'] then some .c2
  else none

/-- A line's operation: one of the legal ones, or a pseudo-operation (R78, R79). -/
inductive AsmOp where
  | instr (i : Instr)
  | pseudo (p : Pseudo)
deriving DecidableEq, Repr

/-- A bare mnemonic. -/
def bareOp (m : String) : Option AsmOp :=
  if m = "CLK_CALIBRATE" then some (.instr .clkCalibrate)
  else if m = "CLK_READ" then some (.instr .clkRead)
  else if m = "SCHED_INIT" then some (.instr .schedInit)
  else if m = "SCHED_STEP" then some (.instr .schedStep)
  else if m = "SYS_INIT" then some (.instr .sysInit)
  else if m = "SYS_RUN" then some (.instr .sysRun)
  else if m = "SYS_STOP" then some (.instr .sysStop)
  else if m = "SYS_STEP" then some (.instr .sysStep)
  else if m = "SYS_DEINIT" then some (.instr .sysDeinit)
  else none

/-- A mnemonic with a counter. -/
def counterOp (m : String) (n : CounterId) : Option AsmOp :=
  if m = "READ_COUNTER" then some (.instr (.readCounter n))
  else if m = "READ_MODE" then some (.instr (.readMode n))
  else if m = "READ_TARGET" then some (.instr (.readTarget n))
  else if m = "START_FREE" then some (.pseudo (.startFree n))
  else if m = "HALT_COUNTER" then some (.pseudo (.haltCounter n))
  else if m = "ACK" then some (.pseudo (.ack n))
  else none

/-- A mnemonic with a counter and a number. -/
def counterValueOp (m : String) (n : CounterId) (v : Word) : Option AsmOp :=
  if m = "WRITE_MODE" then some (.instr (.writeMode n v))
  else if m = "WRITE_TARGET" then some (.instr (.writeTarget n v))
  else if m = "TICK" then some (.instr (.tick n v))
  else if m = "START_TARGET" then some (.pseudo (.startTarget n v))
  else none

/-- The operation of a line's tokens. -/
def tokensOp : List (List Char) → Option AsmOp
  | [m] => bareOp (String.ofList m)
  | [m, c] =>
    match counterToken c with
    | some n => counterOp (String.ofList m) n
    | none => none
  | [m, c, v] =>
    match counterToken c, numberBits 32 v with
    | some n, some w => counterValueOp (String.ofList m) n w
    | _, _ => none
  | _ => none

/-- The clock draw of a trailing comment `; clock=<u64>`; other comments name none (R78). -/
def commentClock (comment : List Char) : Option HostTicks :=
  match tokens (comment.drop 1) [] with
  | ('c' :: 'l' :: 'o' :: 'c' :: 'k' :: '=' :: v) :: _ => numberBits 64 v
  | _ => none

/-- One line: its operation, and its clock draw where it names one. -/
def assembleLine (line : List Char) : Option (AsmOp × Option HostTicks) :=
  match tokensOp (tokens (line.takeWhile (· ≠ ';')) []) with
  | some op => some (op, commentClock (line.dropWhile (· ≠ ';')))
  | none => none

/-- The state with an operation issued after the others, and its clock draw listed where it has one (R78). -/
def State.issue (s : State) (i : Instr) (clock : Option HostTicks) : State :=
  { s with
    inputs :=
      { s.inputs with
        requests := s.inputs.requests ++ [encode i]
        clockAnswers := s.inputs.clockAnswers ++ clock.toList } }

end Sys2Proof.Machine
end

