-- ==== Sys2Proof/Tests/Slice0.lean ====
section
/-! SUPPORT. The model's own tests: the words of 30_encoding.md, the worked examples and derived vectors of 95_test_vectors.md, one
step each, and for every statement that has hypotheses a concrete state and operands that meet them. -/

namespace Sys2Proof.Tests

open Sys2Proof Sys2Proof.Machine

-- One theorem after the other: a kernel evaluation waits for the ones before it, and each waiting theorem would hold a thread's stack.
set_option Elab.async false

/-! ## Small states -/

/-- The next state an outcome gives. -/
def after : Host.Outcome State Fault Refusal → Option State
  | .next t => some t
  | .fault _ => none
  | .refused _ => none

/-- Why an outcome stops. -/
def stop : Host.Outcome State Fault Refusal → Option (Fault ⊕ Refusal)
  | .next _ => none
  | .fault f => some (.inl f)
  | .refused r => some (.inr r)

/-- Parameters with a host tick frequency and a cap. -/
def params (f : Option ℕ+) (cap : ℕ+) : Params :=
  { hostTickFrequency := f, maxStepsPerCall := cap, irqLineOfCounter := { c0 := 0, c1 := 1, c2 := 2 } }

/-- The start of a run with the parameters of the programs of part 3: one host tick is one emulated cycle. -/
def fresh : State :=
  { State.reset with params := params (some 33868800) 65536 }

/-- The System initialized and stopped. -/
def ready : State :=
  { fresh with sys := { initialized := true, running := false, cpuHandle := true, gpuHandle := true } }

/-- The state with one counter's registers. -/
def counter (s : State) (n : CounterId) (value mode target : Word) : State :=
  s.setCounterOf n { counter := value, mode := mode, target := target }

/-- The clock calibrated for `f` host ticks a second and the Scheduler started at sample 0, with a cap. -/
def started (s : State) (f cap : ℕ+) : State :=
  { s with
    params := params (some f) cap
    clk := { calibrated := true, resolution := 1000 / ((f : Nat) : Millis), lastSample := 0 }
    sch := { s.sch with started := true } }

/-- The System running, the Scheduler started, one host tick an emulated cycle: the programs of part 3 at their first SCHED_STEP. -/
def running : State :=
  started (ready.setSys { ready.sys with running := true }) 33868800 65536

/-- The host's coming clock answers. -/
def answers (s : State) (vs : List HostTicks) : State :=
  { s with inputs := { s.inputs with clockAnswers := vs } }

/-- The registers of the three counters, as (counter, mode, target). -/
def registers (s : State) : List (Word × Word × Word) :=
  [s.rc.c0, s.rc.c1, s.rc.c2].map fun c => (c.counter, c.mode, c.target)

/-- The state with one request issued. -/
def issued (s : State) (r : Request) : State :=
  s.setRequests [r]

/-! ## Decoding: words written out bit by bit -/

/-- Format B, `0 w rr 00 nn` (R71, R73). -/
theorem test_decode_register_words :
    decodeTableWord 8 0b00000000 = some (.readCounter .c0) ∧ decodeTableWord 8 0b00000010 = some (.readCounter .c2) ∧
    decodeTableWord 8 0b00010001 = some (.readMode .c1) ∧ decodeTableWord 8 0b00010010 = some (.readMode .c2) ∧
    decodeTableWord 8 0b00100000 = some (.readTarget .c0) ∧ decodeTableWord 8 0b00100001 = some (.readTarget .c1) ∧
    decodeTableWord 40 0xFFFFFFFF51 = some (.writeMode .c1 0xFFFFFFFF) ∧
    decodeTableWord 40 (0b01010000 + 2 ^ 39) = some (.writeMode .c0 0x80000000) ∧
    decodeTableWord 40 0b0000000100000010000000110000010001100010 = some (.writeTarget .c2 0x01020304) ∧
    decodeTableWord 40 0b01000001 = some (.writeCounter .c1 (some 0)) := by decide

/-- Format P, `1 ooooo nn` (R72, R74). -/
theorem test_decode_port_words :
    decodeTableWord 40 (0b10000000 + 2 ^ 8 * 65536) = some (.tick .c0 65536) ∧
    decodeTableWord 40 0b10000010 = some (.tick .c2 0) ∧ decodeTableWord 8 0b10000001 = some (.tick .c1 0) ∧
    decodeTableWord 8 0b10000100 = some .clkCalibrate ∧ decodeTableWord 8 0b10001000 = some .clkRead ∧
    decodeTableWord 8 0b10001100 = some .schedInit ∧ decodeTableWord 8 0b10010000 = some .schedStep ∧
    decodeTableWord 8 0b10010100 = some .sysInit ∧ decodeTableWord 8 0b10011000 = some .sysRun ∧
    decodeTableWord 8 0b10011100 = some .sysStop ∧ decodeTableWord 8 0b10100000 = some .sysStep ∧
    decodeTableWord 8 0b10100100 = some .sysDeinit := by decide

/-- The reserved codes of part 2.1, with the ends of their ranges (R75). -/
theorem test_decode_reserved :
    ∀ c ∈ ([0x03, 0x13, 0x30, 0x33, 0x04, 0x0C, 0x43, 0x70, 0x7F, 0x83, 0x85, 0xA5, 0xA7, 0xA8, 0xFF] : List Code),
      decodeCode c = none ∧ reservedCode c = true ∧
        decode { code := c, operand := some 0, width := .word } = .error .reservedEncoding := by decide

/-- The other two reasons a request has no operation (R53, R70); neither is a counter write's, which its code alone refuses (R202). -/
theorem test_decode_refuses_width_and_operand :
    decode { code := 0x10, operand := none, width := .half } = .error .narrowAccess ∧
    decode { code := 0x10, operand := some 0, width := .word } = .error .malformedRequest ∧
    decode { code := 0x50, operand := none, width := .word } = .error .malformedRequest ∧
    decode { code := 0x90, operand := none, width := .byte } = .ok .schedStep ∧
    decode { code := 0x42, operand := none, width := .word } = .ok (.writeCounter .c2 none) ∧
    decode { code := 0x40, operand := some 7, width := .half } = .ok (.writeCounter .c0 (some 7)) := by decide

/-- WellFormed refuses an ill-formed request for each of its checks: a code of no row, a narrow register access, an operand missing
and an operand too many; and accepts the request beside it. -/
theorem test_wellFormed_refuses :
    Request.WellFormed { code := 0x85, operand := none, width := .word } = false ∧
    Request.WellFormed { code := 0x84, operand := none, width := .word } = true ∧
    Request.WellFormed { code := 0x20, operand := none, width := .byte } = false ∧
    Request.WellFormed { code := 0x20, operand := none, width := .word } = true ∧
    Request.WellFormed { code := 0x60, operand := none, width := .word } = false ∧
    Request.WellFormed { code := 0x60, operand := some 3, width := .word } = true ∧
    Request.WellFormed { code := 0xA0, operand := some 0, width := .word } = false ∧
    Request.WellFormed { code := 0xA0, operand := none, width := .byte } = true ∧
    Request.WellFormed { code := 0x41, operand := none, width := .byte } = true ∧
    Request.WellFormed { code := 0x43, operand := none, width := .word } = false ∧
    Instr.legal (.writeCounter .c0 (some 7)) = false ∧ Instr.legal (.tick .c0 7) = true ∧
    legalCodes.length = 27 ∧ legalCodes.Nodup := by decide

/-! ## Register operations (part 2.2) -/

/-- V-RG1 and the example of R140. -/
theorem test_readCounter :
    (after (exec (.readCounter .c0) ready)).map State.result = some (.word 0) ∧
    (after (exec (.readCounter .c1) (counter ready .c1 9 0 0))).map State.result = some (.word 9) := by decide +kernel

/-- V-RG6: a read clears nothing. -/
theorem test_readMode :
    (after (exec (.readMode .c0) (counter ready .c0 0 0x800 0))).map (fun t => (t.result, t.rc.c0.mode)) =
      some (.word 0x800, 0x800) := by decide +kernel

/-- V-RG5, V-RG2: the whole word is replaced, the counter kept. -/
theorem test_writeMode :
    (after (exec (.writeMode .c0 0xFFFFFFFF) (counter ready .c0 5 0 7))).map registers =
      some [(5, 0xFFFFFFFF, 7), (0, 0, 0), (0, 0, 0)] := by decide +kernel

/-- V-RG7, R209: status written as zeros reads as zeros, and the latch is re-armed. -/
theorem test_writeMode_rearms :
    (after (exec (.writeMode .c0 0x18) ((counter ready .c0 0 0x1C18 3).setOneshotFired .c0 true))).map
      (fun t => (t.rc.c0.mode, t.oneshotFired .c0)) = some (0x18, false) := by decide +kernel

/-- The example of R143. -/
theorem test_readTarget :
    (after (exec (.readTarget .c2) (counter ready .c2 0 0 0xFFFF))).map State.result = some (.word 0xFFFF) := by
  decide +kernel

/-- E2, V-RG3, V-RG4. -/
theorem test_writeTarget :
    (after (exec (.writeTarget .c0 0x12345678) ready)).map (fun t => t.rc.c0.target) = some 0x5678 ∧
    (after (exec (.writeTarget .c1 0xFFFF0000) ready)).map (fun t => t.rc.c1.target) = some 0 ∧
    (after (exec (.writeTarget .c2 0x0001FFFF) ready)).map (fun t => t.rc.c2.target) = some 0xFFFF := by decide +kernel

/-- V-RG8; and the code of part 2.1 with no operand, before SYS_INIT too. -/
theorem test_writeCounter :
    stop (step (ready.withFetchWord 40 0x740)) = some (.inr .counterWriteUnsupported) ∧
    stop (step (issued fresh { code := 0x41, operand := none, width := .word })) = some (.inr .counterWriteUnsupported) := by
  decide +kernel

/-- V-RG9, with every operation of a counter. -/
theorem test_counter_operations_before_sysInit :
    ∀ i ∈ [.readCounter .c0, .readMode .c1, .readTarget .c2, .writeMode .c0 0, .writeTarget .c1 0, .tick .c2 0],
      stop (exec i fresh) = some (.inr .counterNotConstructed) := by decide +kernel

/-! ## TICK (part 2.3) -/

/-- One row of part 2.3, as (mode, target, counter before, cycles, returns, counter after); the mode word and the target stay. -/
def tickRow (mode target before cycles : Word) (wrapped : Bool) (left : Word) : Bool :=
  decide ((after (exec (.tick .c1 cycles) (counter ready .c1 before mode target))).map
    (fun t => (t.result, registers t)) = some (.wrapped wrapped, [(0, 0, 0), (left, mode, target), (0, 0, 0)]))

/-- V-T1 to V-T8. -/
theorem test_tick_counts_and_wraps :
    tickRow 0 0 0 1 false 1 = true ∧
    tickRow 0 0 0xFFFE 1 true 0 = true ∧
    tickRow 0 0 0xFFFD 1 false 0xFFFE = true ∧
    tickRow 0 0 0 0xFFFF true 0 = true ∧
    tickRow 0 0 0 0xFFFE false 0xFFFE = true ∧
    tickRow 0 0 5 0xFFFFFFFF true 0 = true ∧
    tickRow 8 0 0 0 true 0 = true ∧
    tickRow 8 10 9 5 true 0 = true := by decide +kernel

/-- V-T9 to V-T16. -/
theorem test_tick_corners :
    tickRow 8 10 9 0 false 9 = true ∧
    tickRow 8 3 7 0 true 0 = true ∧
    tickRow 1 0 100 0xFFFFFFFF false 100 = true ∧
    tickRow 9 0 0 0 false 0 = true ∧
    tickRow 0x308 2 0 1 false 1 = true ∧
    tickRow 8 0xFFFF 0xFFFE 1 true 0 = true ∧
    tickRow 0xFFFFFFFE 0xFFFF 0xFFFE 1 true 0 = true ∧
    tickRow 6 0 0 1 false 1 = true := by decide +kernel

/-! ## InterruptAdapter (part 2.4) -/

/-- One row of part 2.4, one wrap of counter 2: the mode word, the latch and the line before; then the mode word, the events, the
latch and the line after. -/
def adapterRow (mode : Word) (fired level : Bool) (mode' : Word) (events : List Event) (fired' level' : Bool) : Bool :=
  let t := adapterOnWrap .c2 (((counter ready .c2 0 mode 0).setOneshotFired .c2 fired).setLineLevel .c2 level)
  decide (t.rc.c2.mode = mode' ∧ t.trace = events ∧ t.oneshotFired .c2 = fired' ∧ t.lineLevel .c2 = level')

/-- V-A1 to V-A10. -/
theorem test_adapter_vectors :
    adapterRow 0 false false 0x1000 [] false false = true ∧
    adapterRow 0x20 false false 0x1420 [.irqPulse .c2] true false = true ∧
    adapterRow 0x20 true false 0x1020 [] true false = true ∧
    adapterRow 0x60 true false 0x1460 [.irqPulse .c2] true false = true ∧
    adapterRow 0xE0 false false 0x14E0 [.irqToggle .c2 true] true true = true ∧
    adapterRow 0xE0 true true 0x14E0 [.irqToggle .c2 false] true false = true ∧
    adapterRow 0x18 false false 0xC18 [.irqPulse .c2] true false = true ∧
    adapterRow 0x28 false false 0x828 [] false false = true ∧
    adapterRow 0x10 false false 0x1010 [] false false = true ∧
    adapterRow 0xFFFF0018 false false 0xFFFF0C18 [.irqPulse .c2] true false = true := by decide +kernel

/-! ## CycleClock (part 2.5) -/

/-- V-C1, V-C2. -/
theorem test_clkCalibrate :
    (after (exec .clkCalibrate { fresh with params := params (some 1000) 1 })).map (fun t => (t.clk.calibrated, t.clk.resolution)) =
      some (true, 1) ∧
    (after (exec .clkCalibrate fresh)).map (fun t => t.clk.resolution) = some (5 / 169344) := by decide +kernel

/-- V-C3, V-C4. -/
theorem test_clkCalibrate_stops :
    stop (exec .clkCalibrate { fresh with params := params none 1 }) = some (.inl .calibrationFailed) ∧
    stop (exec .clkCalibrate running) = some (.inr .recalibrationMidRun) := by decide +kernel

/-- A state whose last host clock sample was 500. -/
def sampled500 (next : HostTicks) : State :=
  answers { fresh with clk := { fresh.clk with lastSample := 500 } } [next]

/-- V-C5, V-C6. -/
theorem test_clkRead :
    (after (exec .clkRead (sampled500 500))).map (fun t => (t.result, t.clk.lastSample)) = some (.hostTicks 500, 500) ∧
    stop (exec .clkRead (sampled500 499)) = some (.inl .hostClockNotAdmitted) := by decide +kernel

/-! ## Scheduler (part 2.6 and the programs of part 3) -/

/-- A calibrated clock, the Scheduler not started. -/
def calibrated : State :=
  { fresh with clk := { fresh.clk with calibrated := true, resolution := 5 / 169344 } }

/-- The example of R123. -/
theorem test_schedInit :
    (after (exec .schedInit (answers calibrated [1000]))).map
      (fun t => (t.sch.started, t.sch.previous, t.sch.current, t.sch.spanAccumulator, t.clk.lastSample)) =
      some (true, 1000, 1000, 0, 1000) := by decide +kernel

/-- The refusals of R123, and V-S8. -/
theorem test_scheduler_refusals :
    stop (exec .schedInit fresh) = some (.inr .clockNotCalibrated) ∧
    stop (exec .schedInit running) = some (.inr .schedulerAlreadyStarted) ∧
    stop (exec .schedStep (answers calibrated [10])) = some (.inr .schedulerNotStarted) := by decide +kernel

/-- P1 before its first SCHED_STEP. -/
def p1 : State :=
  answers (counter running .c0 0 0x18 3) [7]

/-- P1, the first SCHED_STEP: seven steps, one pulse. P2: two toggles and a halted counter. P5: the CPU lowers the target inside
step 2. -/
theorem test_schedStep_programs :
    (after (exec .schedStep p1)).map (fun t => (registers t, t.trace, t.sch.spanAccumulator)) =
      some ([(1, 0xC18, 3), (7, 0, 0), (7, 0, 0)], [.irqPulse .c0], 0) ∧
    (after (exec .schedStep p1)).map (fun t => (t.sch.renderTimeSpan, t.sch.totalCycles)) = some (5 / 24192, 7) ∧
    (after (exec .schedStep (answers (counter (counter running .c1 0 0xD8 2) .c2 0 1 0) [5]))).map
      (fun t => (registers t, t.trace, t.lineLevel .c1)) =
      some ([(5, 0, 0), (1, 0xCD8, 2), (0, 1, 0)], [.irqToggle .c1 true, .irqToggle .c1 false], false) ∧
    (after (exec .schedStep
      ((answers (counter running .c0 0 0x58 5) [4]).setCpuSteps [[], [.writeTarget .c0 1]]))).map
      (fun t => (registers t, t.trace)) =
      some ([(0, 0xC58, 1), (4, 0, 0), (4, 0, 0)], [.irqPulse .c0, .irqPulse .c0, .irqPulse .c0]) := by decide +kernel

/-- The clamp and the cap, as in V-S3 and V-S4 with a cap of 3: 250 ms are accumulated, 3 steps of 5/169344 ms taken, and a second
call's backlog is clamped to 250 ms. Pacing, as in V-S5's last call: the render of a call counts in the value it publishes; and V-S7,
where nothing is due. V-Y7: with the System stopped the Scheduler drains and the counters stay. -/
theorem test_schedStep_limits :
    (after (exec .schedStep (answers (started fresh 1000 3) [5000]))).map
      (fun t => (t.sch.spanAccumulator, t.sch.totalCycles, t.sch.fpsTimeSpan)) = some (250 - 15 / 169344, 3, 250) ∧
    (after (exec .schedStep (answers { started fresh 1000 3 with sch := { (started fresh 1000 3).sch with spanAccumulator := 250 } }
      [250]))).map (fun t => t.sch.spanAccumulator) = some 250 ∧
    (after (exec .schedStep (answers { started fresh 1000 1 with
        sch := { (started fresh 1000 1).sch with renderTimeSpan := 16, fpsTimeSpan := 999, fpsCounter := 59 } } [1]))).map
      (fun t => (t.trace, t.sch.fpsValue, t.sch.fpsCounter, t.sch.fpsTimeSpan, t.sch.renderTimeSpan)) =
      some ([.render, .status "FPS: 60"], 60, 0, 0, 0) ∧
    (after (exec .schedStep (answers (started fresh 1000 1) [0]))).map (fun t => (t.sch, t.trace)) =
      some ((started fresh 1000 1).sch, []) ∧
    (after (exec .schedStep (answers (started ready 33868800 65536) [5]))).map (fun t => (registers t, t.sch.totalCycles)) =
      some ([(0, 0, 0), (0, 0, 0), (0, 0, 0)], 5) := by decide +kernel

/-! ## System (part 2.7) -/

/-- V-Y1, V-Y2. -/
theorem test_sysInit :
    (after (exec .sysInit (counter fresh .c0 1 2 3))).map (fun t => (registers t, t.sys.initialized, t.sys.running)) =
      some ([(0, 0, 0), (0, 0, 0), (0, 0, 0)], true, false) ∧
    stop (exec .sysInit ready) = some (.inr .alreadyInitialized) := by decide +kernel

/-- The example of R171, and V-Y5. -/
theorem test_sysRun :
    (after (exec .sysRun ready)).map (fun t => t.sys.running) = some true ∧
    stop (exec .sysRun fresh) = some (.inr .notInitialized) := by decide +kernel

/-- V-Y3, V-Y6. -/
theorem test_sysStop :
    (after (exec .sysStop running)).map (fun t => (t.sys.initialized, t.sys.running)) = some (true, false) ∧
    after (exec .sysStop fresh) = some fresh := by decide +kernel

/-- V-Y8. -/
theorem test_sysStep :
    stop (step (running.withFetchWord 8 0xA0)) = some (.inr .stepOutsideDrainLoop) := by decide +kernel

/-- A one-shot counter that has fired and wraps in the next step. -/
def spent : State :=
  (counter running .c0 2 0xC18 3).setOneshotFired .c0 true

/-- The example of R173: one effective SYS_STEP of the drain loop from zero. A one-shot counter that has fired asserts nothing (R208),
and asserts again where the CPU writes its mode word in the step, which comes before the tick (R209, R242); the CPU reads the counter
before the tick. -/
theorem test_sysStep_counts :
    registers (sysStep running) = [(1, 0, 0), (1, 0, 0), (1, 0, 0)] ∧ (sysStep running).trace = [] ∧
    (sysStep spent).trace = [] ∧
    (let t := sysStep (spent.setCpuSteps [[.readMode .c0, .writeMode .c0 0x18, .readCounter .c0, .readTarget .c0]]);
      t.trace = [.irqPulse .c0] ∧ t.rc.c0.mode = 0xC18 ∧ t.cpuReads = [0xC18, 2, 3]) := by decide +kernel

/-- V-Y4: a running System is stopped, and a second SYS_DEINIT changes nothing. -/
theorem test_sysDeinit :
    (after (exec .sysDeinit running)).map (fun t => (t.sys.initialized, t.sys.running, t.sch.started)) =
      some (false, false, true) ∧
    after (exec .sysDeinit fresh) = some fresh := by decide +kernel

/-! ## The start of a run, the marks, the issue order -/

/-- An operation issued first runs first, from the start of a run (R233). -/
theorem test_first_step :
    (after (step (fresh.withFetchWord 8 0x94))).map (fun t => (t.sys.initialized, t.sys.running, t.inputs.requests)) =
      some (true, false, []) ∧
    stop (step (fresh.withFetchWord 8 0x00)) = some (.inr .counterNotConstructed) := by decide +kernel

/-- R42: a failed calibration is final, and so is a refusal. -/
theorem test_marks :
    let s := { fresh with params := params none 1 }.withFetchWord 8 0x84
    stop (step s) = some (.inl .calibrationFailed) ∧ (s.settle (step s)).faulted = true ∧
      stop (step (s.settle (step s))) = some (.inl .alreadyFaulted) ∧
      ((fresh.withFetchWord 8 0xA0).settle (step (fresh.withFetchWord 8 0xA0))).refused = true := by decide +kernel

/-- R79: ACK clears bits 12:10 and keeps the rest. -/
theorem test_ack :
    (after (execPseudo (.ack .c1) (counter ready .c1 4 0xFFFFFFFF 9))).map registers =
      some [(0, 0, 0), (4, 0xFFFFE3FF, 9), (0, 0, 0)] := by decide +kernel

/-- Lines of the programs, read as R78 and R79 give them. -/
theorem test_assemble :
    assembleLine "WRITE_MODE c0, 0x18        ; 50 00000018".toList = some (.instr (.writeMode .c0 0x18), none) ∧
    assembleLine "SCHED_STEP ; clock=65535".toList = some (.instr .schedStep, some 65535) ∧
    assembleLine "TICK c1, 100".toList = some (.instr (.tick .c1 100), none) ∧
    assembleLine "START_TARGET c2, 5".toList = some (.pseudo (.startTarget .c2 5), none) ∧
    assembleLine "WRITE_MODE c3, 1".toList = none ∧ assembleLine "TICK c1, 4294967296".toList = none ∧
    instrText (.writeTarget .c1 2) = some "WRITE_TARGET c1, 2" := by decide +kernel

/-! ## Witnesses: for each statement with hypotheses, a state and operands that meet them, with a boundary value for each clause -/

/-- An outcome that is a next state is one. -/
theorem next_of_after {o : Host.Outcome State Fault Refusal} (h : (after o).isSome = true) : ∃ t, o = .next t := by
  cases o with
  | next t => exact ⟨t, rfl⟩
  | fault f => cases h
  | refused r => cases h

/-- EncodeOfDecode: a register request, and a port request and a counter write, whose width is not consulted. -/
theorem test_witness_EncodeOfDecode :
    decode { code := 0x62, operand := some 0xFFFFFFFF, width := .word } = .ok (.writeTarget .c2 0xFFFFFFFF) ∧
    (0x62 : Code).getLsbD 7 = false ∧ Instr.legal (.writeTarget .c2 0xFFFFFFFF) = true ∧
    decode { code := 0x40, operand := none, width := .half } = .ok (.writeCounter .c0 none) ∧
    decode { code := 0xA4, operand := none, width := .byte } = .ok .sysDeinit := by decide

/-- ReservedEncodingsAreRefused: the last reserved code of format P, and the counter write, which is not among the listed ones. -/
theorem test_witness_ReservedEncodingsAreRefused :
    (issued fresh { code := 0xFF, operand := none, width := .word }).Unmarked ∧
    (issued fresh { code := 0xFF, operand := none, width := .word }).inputs.requests =
      [{ code := 0xFF, operand := none, width := .word }] ∧
    (0xFF : Code) ∉ legalCodes ∧ reservedCode 0xFF = true ∧
    (0x42 : Code) ∉ legalCodes ∧ reservedCode 0x42 = false := by
  refine ⟨⟨rfl, rfl⟩, rfl, ?_⟩
  decide

/-- NarrowAccessIsRefused. -/
theorem test_witness_NarrowAccessIsRefused :
    let s := issued ready { encode (.readMode .c2) with width := .half }
    s.Unmarked ∧ Instr.counterOperation (.readMode .c2) = some .c2 ∧ (encode (.readMode .c2)).code.getLsbD 7 = false ∧
      AccessWidth.half ≠ .word ∧ s.inputs.requests = { encode (.readMode .c2) with width := .half } :: [] := by
  refine ⟨⟨rfl, rfl⟩, rfl, by decide, by decide, rfl⟩

/-- StepRunsTheDecodedOperation: a request that decodes, one that does not, and none. -/
theorem test_witness_StepRunsTheDecodedOperation :
    fresh.Unmarked ∧ fresh.inputs.requests = [] ∧
    (issued fresh (encode .sysInit)).Unmarked ∧ (issued fresh (encode .sysInit)).inputs.requests = encode .sysInit :: [] ∧
    decode (encode .sysInit) = .ok .sysInit ∧
    decode { code := 0x60, operand := none, width := .word } = .error .malformedRequest := by
  refine ⟨⟨rfl, rfl⟩, rfl, ⟨rfl, rfl⟩, rfl, by decide, by decide⟩

/-- MarksAreForGood: a next state, a fault, a refusal, and a marked state. -/
theorem test_witness_MarksAreForGood :
    (∃ t, exec .sysInit fresh = .next t) ∧
    stop (step (issued { fresh with params := params none 1 } (encode .clkCalibrate))) = some (.inl .calibrationFailed) ∧
    stop (step (issued fresh (encode .sysStep))) = some (.inr .stepOutsideDrainLoop) ∧
    (issued fresh (encode .sysStep)).refused = false ∧
    { fresh with faulted := true }.faulted = true ∧ { fresh with refused := true }.refused = true := by
  refine ⟨next_of_after (by decide +kernel), by decide +kernel, by decide +kernel, rfl, rfl, rfl⟩

/-- ParametersAreConstant, ResolutionIsFixedOnceCalibrated, SamplesNeverDecrease, OnlySchedStepEmits: a SCHED_STEP, and an operation
other than it, on a calibrated clock. -/
theorem test_witness_ParametersAreConstant_and_its_like :
    (∃ t, exec .schedStep p1 = .next t) ∧ p1.clk.calibrated = true ∧
    (∃ t, exec (.tick .c0 5) p1 = .next t) ∧ (Instr.tick .c0 5) ≠ .schedStep := by
  refine ⟨next_of_after (by decide +kernel), rfl, next_of_after (by decide +kernel), by decide⟩

/-- EveryStepKeepsInvariant: a running machine with a SCHED_STEP issued. -/
theorem test_witness_EveryStepKeepsInvariant :
    (issued p1 (encode .schedStep)).Inv ∧ ∃ t, step (issued p1 (encode .schedStep)) = .next t := by
  refine ⟨⟨?_, ⟨?_, ?_⟩, ?_, ?_, ?_, ?_⟩, next_of_after (by decide +kernel)⟩
  · intro n
    cases n <;> exact ⟨by decide +kernel, by decide +kernel⟩
  · intro _
    decide +kernel
  · intro _
    rfl
  · intro _
    exact ⟨rfl, by decide +kernel⟩
  · exact ⟨by decide +kernel, by decide +kernel⟩
  · exact ⟨⟨by decide +kernel, by decide +kernel⟩, by decide +kernel, by decide +kernel⟩
  · exact ⟨fun _ => rfl, rfl, rfl⟩

/-- ReadsReturnRegisters, WriteModeReplacesTheWord, WriteTargetMasks, ModeWordRoundTrips, TargetReadsBackMasked,
PseudoOperationsExpand, SysRunSetsRunning, SysInitConstructs, SysDeinitReleasesOnce: the System initialized, and not; and another
counter beside the one written. -/
theorem test_witness_ReadsReturnRegisters_and_its_like :
    ready.sys.initialized = true ∧ fresh.sys.initialized = false ∧ CounterId.c1 ≠ .c0 := by
  refine ⟨rfl, rfl, by decide⟩

/-- RegisterAccessesAreIdempotent. -/
theorem test_witness_RegisterAccessesAreIdempotent :
    (Instr.writeTarget .c1 0x10003) ∈
      [Instr.readCounter .c1, .readMode .c1, .readTarget .c1, .writeMode .c1 0x10003, .writeTarget .c1 0x10003] ∧
    ∃ t, exec (.writeTarget .c1 0x10003) ready = .next t := by
  refine ⟨by simp, next_of_after (by decide +kernel)⟩

/-- CounterOperationsNeedTheSystem, CounterOperationsNeverFail. -/
theorem test_witness_CounterOperationsNeedTheSystem_and_NeverFail :
    Instr.counterOperation (.tick .c2 0xFFFFFFFF) = some .c2 ∧ fresh.sys.initialized = false ∧ ready.sys.initialized = true := by
  refine ⟨rfl, rfl, rfl⟩

/-- CounterWriteIsRefused: the request of V-RG8, and one without an operand, at the highest index. -/
theorem test_witness_CounterWriteIsRefused :
    (issued ready { code := BitVec.ofNat 8 (0x40 + CounterId.c0.index), operand := some 7, width := .word }).Unmarked ∧
    (issued ready { code := BitVec.ofNat 8 (0x40 + CounterId.c0.index), operand := some 7, width := .word }).inputs.requests =
      [{ code := 0x40, operand := some 7, width := .word }] ∧
    (issued fresh { code := BitVec.ofNat 8 (0x40 + CounterId.c2.index), operand := none, width := .byte }).Unmarked ∧
    (issued fresh { code := BitVec.ofNat 8 (0x40 + CounterId.c2.index), operand := none, width := .byte }).inputs.requests =
      [{ code := 0x42, operand := none, width := .byte }] := by
  exact ⟨⟨rfl, rfl⟩, rfl, ⟨rfl, rfl⟩, rfl⟩

/-- TickCountsOrWraps: stopped; the sum at the limit, one below it, in Free-run and in Target-reset. TickOfStoppedCounter: the
first of them. -/
theorem test_witness_TickCountsOrWraps :
    let running (mode : Word) := counter ready .c0 9 mode 10
    (running 8).sys.initialized = true ∧
    ((running 9).counterOf .c0).mode.getLsbD 0 = true ∧ ((running 8).counterOf .c0).mode.getLsbD 0 = false ∧
    ((running 8).counterOf .c0).target.toNat ≤ ((running 8).counterOf .c0).counter.toNat + (1 : Word).toNat ∧
    ¬ ((running 8).counterOf .c0).target.toNat ≤ ((running 8).counterOf .c0).counter.toNat + (0 : Word).toNat ∧
    0xFFFF ≤ ((running 0).counterOf .c0).counter.toNat + (0xFFF6 : Word).toNat ∧
    ¬ 0xFFFF ≤ ((running 0).counterOf .c0).counter.toNat + (0xFFF5 : Word).toNat := by decide +kernel

/-- TickReadsOnlyEnAndResetmode: two mode words that agree in `en` and `resetmode` alone. -/
theorem test_witness_TickReadsOnlyEnAndResetmode :
    let s := counter ready .c0 9 0x8 10
    let s' := counter ready .c0 9 0xFFFFFFFE 10
    (s'.counterOf .c0).counter = (s.counterOf .c0).counter ∧ (s'.counterOf .c0).target = (s.counterOf .c0).target ∧
      (s'.counterOf .c0).mode.getLsbD 0 = (s.counterOf .c0).mode.getLsbD 0 ∧
      (s'.counterOf .c0).mode.getLsbD 3 = (s.counterOf .c0).mode.getLsbD 3 ∧
      (after (exec (.tick .c0 1) s)).isSome = true ∧ (after (exec (.tick .c0 1) s')).isSome = true := by decide +kernel

/-- TickPeriodIsTheLimit: the shortest period and the Free-run one. -/
theorem test_witness_TickPeriodIsTheLimit :
    ready.sys.initialized = true ∧
    (let c := (counter ready .c0 0 8 1).counterOf .c0;
      c.mode.getLsbD 0 = false ∧ c.counter = 0 ∧ 1 = (if c.mode.getLsbD 3 then c.target.toNat else 65535)) ∧
    (let c := (counter ready .c0 0 0 1).counterOf .c0;
      c.mode.getLsbD 0 = false ∧ c.counter = 0 ∧ 65535 = (if c.mode.getLsbD 3 then c.target.toNat else 65535)) := by
  decide +kernel

/-- LoweredTargetWrapsAtNextTick: a target equal to the counter once masked. -/
theorem test_witness_LoweredTargetWrapsAtNextTick :
    let s := counter ready .c0 5 8 10
    s.sys.initialized = true ∧ (s.counterOf .c0).mode.getLsbD 0 = false ∧ (s.counterOf .c0).mode.getLsbD 3 = true ∧
      (0xFFFF0005 : Word).toNat % 65536 ≤ (s.counterOf .c0).counter.toNat := by decide +kernel

/-- CalibrateSetsResolution and FailedCalibrationIsFinal: the lowest frequency, none, and a calibrated clock. -/
theorem test_witness_CalibrateSetsResolution :
    fresh.clk.calibrated = false ∧ { fresh with params := params (some 1) 1 }.params.hostTickFrequency = some 1 ∧
    { fresh with params := params none 1 }.clk.calibrated = false ∧
    { fresh with params := params none 1 }.params.hostTickFrequency = none ∧ calibrated.clk.calibrated = true := by
  refine ⟨rfl, rfl, rfl, rfl, rfl⟩

/-- ClkReadReturnsTheDraw: an answer equal to the last sample, and no answer listed. -/
theorem test_witness_ClkReadReturnsTheDraw :
    (sampled500 500).Draws 500 ∧ fresh.Draws (freeSample fresh.clk.lastSample fresh.inputs.clockDraws) := by
  exact ⟨.inl ⟨[], rfl, by decide +kernel⟩, .inr ⟨rfl, rfl⟩⟩

/-- ClockRunningBackIsNotAdmitted: one tick before the last sample, with the Scheduler not started and started. -/
theorem test_witness_ClockRunningBackIsNotAdmitted :
    (sampled500 499).inputs.clockAnswers = 499 :: [] ∧ ¬ (sampled500 499).clk.lastSample ≤ 499 ∧
    (let s := { sampled500 499 with clk := { calibrated := true, resolution := 1, lastSample := 500 } };
      s.clk.calibrated = true ∧ s.sch.started = false ∧ ¬ s.clk.lastSample ≤ 499 ∧
        { s with sch := { s.sch with started := true } }.sch.started = true) := by
  refine ⟨rfl, by decide +kernel, rfl, rfl, by decide +kernel, rfl⟩

/-- SchedInitStartsTheScheduler: each of its three clauses. -/
theorem test_witness_SchedInitStartsTheScheduler :
    (calibrated.clk.calibrated = true ∧ calibrated.sch.started = false ∧ (answers calibrated [0]).Draws 0) ∧
    fresh.clk.calibrated = false ∧ running.clk.calibrated = true ∧ running.sch.started = true := by
  exact ⟨⟨rfl, rfl, .inl ⟨[], rfl, by decide +kernel⟩⟩, rfl, rfl, rfl⟩

/-- SchedStepSamplesAndCompletes, SchedStepDrainsTheBacklog, SchedStepAdvancesTheSystem: P1's first call, whose seven steps end by
the backlog; a call that ends by a cap one below the backlog's steps; and a Scheduler not started. -/
theorem test_witness_SchedStepSamplesAndCompletes_and_its_like :
    p1.sch.started = true ∧ p1.Draws 7 ∧ (∃ t, exec .schedStep p1 = .next t) ∧ fresh.sch.started = false ∧
    (let s := { p1 with params := params (some 33868800) 6 };
      s.sch.started = true ∧ s.Draws 7 ∧ ∃ t, exec .schedStep s = .next t) := by
  exact ⟨rfl, .inl ⟨[], rfl, by decide +kernel⟩, next_of_after (by decide +kernel), rfl,
    rfl, .inl ⟨[], rfl, by decide +kernel⟩, next_of_after (by decide +kernel)⟩

/-- LargeCapDrainsFully: the least such cap, and a call of one host tick. -/
theorem test_witness_LargeCapDrainsFully :
    let s := answers { running with params := params (some 33868800) 8467200 } [1]
    s.sch.started = true ∧ s.Draws 1 ∧ (∃ t, exec .schedStep s = .next t) ∧ 8467200 ≤ (s.params.maxStepsPerCall : Nat) ∧
      s.sch.spanAccumulator < 5 / 169344 := by
  exact ⟨rfl, .inl ⟨[], rfl, by decide +kernel⟩, next_of_after (by decide +kernel), by decide +kernel, by decide +kernel⟩

/-- A call of one millisecond with the pacing accumulators at given values. -/
def pacing (render fps : Millis) : State :=
  answers { started fresh 1000 1 with sch := { (started fresh 1000 1).sch with renderTimeSpan := render, fpsTimeSpan := fps } } [1]

/-- SchedStepPaces: each threshold met exactly, and missed by the least the values here show. -/
theorem test_witness_SchedStepPaces :
    (pacing (15667 / 1000) 999).sch.started = true ∧ (pacing (15667 / 1000) 999).Draws 1 ∧
    (∃ t, exec .schedStep (pacing (15667 / 1000) 999) = .next t) ∧
    (pacing (15667 / 1000) 999).rendersInCall 1 = true ∧ (pacing (15667 / 1000) 999).publishesInCall 1 = true ∧
    (∃ t, exec .schedStep (pacing (15666 / 1000) (998999 / 1000)) = .next t) ∧
    (pacing (15666 / 1000) (998999 / 1000)).rendersInCall 1 = false ∧
    (pacing (15666 / 1000) (998999 / 1000)).publishesInCall 1 = false := by
  exact ⟨rfl, .inl ⟨[], rfl, by decide +kernel⟩, next_of_after (by decide +kernel), by decide +kernel, by decide +kernel,
    next_of_after (by decide +kernel), by decide +kernel, by decide +kernel⟩

/-- PacingIgnoresTheSteps: P1's first call with its cap, and with a cap of 1 and the System not initialized. -/
theorem test_witness_PacingIgnoresTheSteps :
    let s' := { p1 with params := params (some 33868800) 1, sys := fresh.sys }
    p1.Draws 7 ∧ s'.Draws 7 ∧ s'.clk = p1.clk ∧ s'.sch = p1.sch ∧ (∃ t, exec .schedStep p1 = .next t) ∧
      ∃ t, exec .schedStep s' = .next t := by
  exact ⟨.inl ⟨[], rfl, by decide +kernel⟩, .inl ⟨[], rfl, by decide +kernel⟩, rfl, rfl,
    next_of_after (by decide +kernel), next_of_after (by decide +kernel)⟩

/-- StoppedSystemStillDrains: initialized and stopped, and not initialized. -/
theorem test_witness_StoppedSystemStillDrains :
    (let s := answers (started ready 33868800 65536) [5];
      s.sch.started = true ∧ s.Draws 5 ∧ (∃ t, exec .schedStep s = .next t) ∧ s.sys.running = false) ∧
    (let s := answers (started fresh 33868800 65536) [5];
      s.sch.started = true ∧ s.Draws 5 ∧ (∃ t, exec .schedStep s = .next t) ∧ s.sys.initialized = false) := by
  exact ⟨⟨rfl, .inl ⟨[], rfl, by decide +kernel⟩, next_of_after (by decide +kernel), rfl⟩,
    rfl, .inl ⟨[], rfl, by decide +kernel⟩, next_of_after (by decide +kernel), rfl⟩

/-- SysStepTicksEveryCounterOnce: an effective step and one that is not; and in an effective one a counter that asserts by toggling, one
that has fired and wraps without asserting, and one that does not wrap. -/
theorem test_witness_SysStepTicksEveryCounterOnce :
    (running.sys.initialized && running.sys.running) = true ∧ (ready.sys.initialized && ready.sys.running) = false ∧
    (let s := counter spent .c1 0 0xD8 1;
      (s.sys.initialized && s.sys.running) = true ∧ s.assertsInStep .c1 = true ∧
        ((cpuStep s).counterOf .c1).mode.getLsbD 7 = true ∧ s.assertsInStep .c0 = false ∧
        (tickRegisters ((cpuStep s).counterOf .c0) 1).2 = true ∧ (tickRegisters ((cpuStep s).counterOf .c2) 1).2 = false) := by
  decide +kernel

/-- CpuOperationsPrecedeTheTicks, first part: a CPU step with every kind of register operation, and one with none, in a running System;
and a stopped one. -/
theorem test_witness_CpuOperationsPrecedeTheTicks_all :
    let ops : List BusOp := [.readMode .c0, .writeMode .c0 0x18, .readCounter .c0, .writeTarget .c1 7, .readTarget .c1]
    (spent.setCpuSteps [ops, []]).sys.initialized = true ∧ (spent.setCpuSteps [ops, []]).inputs.cpuSteps = ops :: [[]] ∧
      (spent.setCpuSteps [ops, []]).sys.running = true ∧ (spent.setCpuSteps [[]]).inputs.cpuSteps = [] :: [] ∧
      (ready.setCpuSteps [ops]).sys.initialized = true ∧ (ready.setCpuSteps [ops]).sys.running = false := by
  exact ⟨rfl, rfl, rfl, rfl, rfl, rfl⟩

/-- CpuOperationsPrecedeTheTicks, second part: a running counter in Target-reset at 5, the CPU writing the target 6. -/
theorem test_witness_CpuOperationsPrecedeTheTicks :
    let s := (counter running .c0 5 8 9).setCpuSteps [[.readCounter .c0, .writeTarget .c0 6]]
    s.sys.initialized = true ∧ s.sys.running = true ∧ s.inputs.cpuSteps = [[.readCounter .c0, .writeTarget .c0 6]] ∧
      (s.counterOf .c0).mode.getLsbD 0 = false ∧ (s.counterOf .c0).mode.getLsbD 3 = true ∧
      (6 : Word).toNat % 65536 ≤ (s.counterOf .c0).counter.toNat + 1 := by decide +kernel

/-- OneStepEventsAreInIndexOrder: counters 0 and 2 wrap and assert in one step. -/
theorem test_witness_OneStepEventsAreInIndexOrder :
    let s := counter (counter running .c2 0 0x58 1) .c0 0 0xD8 1
    s.sys.initialized = true ∧ s.sys.running = true ∧ (sysStep s).trace = [.irqToggle .c0 true, .irqPulse .c2] := by
  decide +kernel

/-- OneShotAssertsAtMostOnce, its sequence of operations: SCHED_STEPs with every other kind of operation between, on a counter that has
fired and on one that has not. -/
theorem test_witness_OneShotAssertsAtMostOnce_sequence :
    let is : List Instr :=
      [.schedStep, .readMode .c0, .writeTarget .c0 2, .tick .c0 1, .writeMode .c1 0, .sysStop, .sysRun, .schedStep, .sysDeinit]
    (∀ i ∈ is, keepsModeWord .c0 i) ∧
    (∃ t, execAll is (answers p1 [7, 9]) = .next t) ∧ (answers p1 [7, 9]).oneshotFired .c0 = false ∧
    ((answers p1 [7, 9]).counterOf .c0).mode.getLsbD 6 = false ∧ (answers p1 [7, 9]).inputs.cpuSteps = [] ∧
    (∃ t, execAll is (answers spent [7, 9]) = .next t) ∧ (answers spent [7, 9]).oneshotFired .c0 = true ∧
    ((answers spent [7, 9]).counterOf .c0).mode.getLsbD 6 = false ∧ (answers spent [7, 9]).inputs.cpuSteps = [] := by
  refine ⟨by simp [keepsModeWord], next_of_after (by decide +kernel), by decide +kernel, by decide +kernel, rfl,
    next_of_after (by decide +kernel), by decide +kernel, by decide +kernel, rfl⟩

/-- OneShotAssertsAtMostOnce: a one-shot counter that has not fired, with a CPU that writes another counter's mode word. -/
theorem test_witness_OneShotAssertsAtMostOnce :
    let s := (counter running .c0 0 0x18 3).setCpuSteps [[.writeMode .c1 0, .readMode .c0]]
    (s.counterOf .c0).mode.getLsbD 6 = false ∧ s.oneshotFired .c0 = false ∧
      ∀ ops ∈ s.inputs.cpuSteps, noModeWrite .c0 ops := by
  refine ⟨by decide +kernel, by decide +kernel, ?_⟩
  intro ops h v hv
  have : ops = [.writeMode .c1 0, .readMode .c0] := by simpa [State.setCpuSteps] using h
  subst this
  simp at hv

/-- FreshSystemCountsFreely: a CPU that reads. -/
theorem test_witness_FreshSystemCountsFreely :
    (fresh.setCpuSteps [[.readCounter .c0], []]).sys.initialized = false ∧
    ∀ ops ∈ (fresh.setCpuSteps [[.readCounter .c0], []]).inputs.cpuSteps, ∀ op ∈ ops, BusOp.isRead op = true := by
  refine ⟨rfl, ?_⟩
  intro ops h op ho
  have : ops = [.readCounter .c0] ∨ ops = [] := by simpa [State.setCpuSteps] using h
  rcases this with rfl | rfl
  · have : op = .readCounter .c0 := by simpa using ho
    subst this
    rfl
  · cases ho

/-- RegistersHaveNoOtherWriter: an operation that is none of the writers of counter 0. -/
theorem test_witness_RegistersHaveNoOtherWriter :
    (∃ t, exec (.writeMode .c1 3) ready = .next t) ∧ (∀ v, Instr.writeMode .c1 3 ≠ .writeMode .c0 v) ∧
    (∀ v, Instr.writeMode .c1 3 ≠ .writeTarget .c0 v) ∧ (∀ c, Instr.writeMode .c1 3 ≠ .tick .c0 c) ∧
    Instr.writeMode .c1 3 ≠ .schedStep ∧ Instr.writeMode .c1 3 ≠ .sysInit ∧ Instr.writeMode .c1 3 ≠ .sysDeinit := by
  refine ⟨next_of_after (by decide +kernel), ?_⟩
  simp

end Sys2Proof.Tests
end

/-! SUPPORT. The part of the state that no operation writes: the OPEN parameters (10_state.md R43), the requests the host has issued
(R44) and the two marks (R42), which `State.settle` alone sets. Each stage of an operation keeps it, so `exec` does. -/

namespace Sys2Proof.Machine

/-- The parameters, the issued requests and the marks. -/
def State.hostPart (s : State) : Params × List Request × Bool × Bool :=
  (s.params, s.inputs.requests, s.faulted, s.refused)

theorem hostPart_eq_iff {s t : State} : t.hostPart = s.hostPart ↔
    t.params = s.params ∧ t.inputs.requests = s.inputs.requests ∧ t.faulted = s.faulted ∧ t.refused = s.refused := by
  simp [State.hostPart]

/-! The updates the stages below are made of. -/

@[simp] theorem hostPart_setSch (s : State) (x : Scheduler) : (s.setSch x).hostPart = s.hostPart := rfl
@[simp] theorem hostPart_emit (s : State) (e : Event) : (s.emit e).hostPart = s.hostPart := rfl
@[simp] theorem hostPart_setResult (s : State) (r : Result) : (s.setResult r).hostPart = s.hostPart := rfl

/-- A draw consumes an answer of the host clock, and no request (40_cycleclock.md R103). -/
theorem hostPart_drawHostClock {s t : State} {v : HostTicks} (h : drawHostClock s = some (v, t)) :
    t.hostPart = s.hostPart := by
  obtain ⟨-, rest, rfl⟩ := drawHostClock_some h
  rfl

/-! A Scheduler call, stage by stage. -/

@[simp] theorem hostPart_sysStep (s : State) : (sysStep s).hostPart = s.hostPart := by
  rw [sysStep_frame]
  rfl

theorem hostPart_drainOnce (s : State) : (drainOnce s).hostPart = s.hostPart := by
  simp [drainOnce]

@[simp] theorem hostPart_drainLoop (cap : Nat) (s : State) : (drainLoop cap s).1.hostPart = s.hostPart :=
  drainLoop_induction (P := fun t => t.hostPart = s.hostPart) (fun t _ ht => (hostPart_drainOnce t).trans ht) cap s rfl

@[simp] theorem hostPart_schedEmulate (span : Millis) (s : State) : (schedEmulate span s).hostPart = s.hostPart := by
  simp [schedEmulate, schedCount, schedClampBacklog, schedDrain, schedAccumulate]

@[simp] theorem hostPart_schedRender (span : Millis) (s : State) : (schedRender span s).hostPart = s.hostPart := by
  unfold schedRender
  split <;> simp

@[simp] theorem hostPart_schedFps (span : Millis) (s : State) : (schedFps span s).hostPart = s.hostPart := by
  unfold schedFps
  split <;> simp

@[simp] theorem hostPart_schedCall (sample : HostTicks) (s : State) : (schedCall sample s).hostPart = s.hostPart := by
  simp [schedCall, schedPace, schedSample]

/-! The operations that have more than one outcome, or more than one next state. -/

theorem hostPart_requireCounter {s t u : State} (h : requireCounter s (.next u) = .next t) (hu : u.hostPart = s.hostPart) :
    t.hostPart = s.hostPart := by
  obtain ⟨-, rfl⟩ := requireCounter_next h
  exact hu

theorem hostPart_execClkCalibrate {s t : State} (h : execClkCalibrate s = .next t) : t.hostPart = s.hostPart := by
  unfold execClkCalibrate at h
  split at h
  · cases h
  · split at h <;> cases h
    rfl

theorem hostPart_execClkRead {s t : State} (h : execClkRead s = .next t) : t.hostPart = s.hostPart := by
  unfold execClkRead at h
  split at h <;> cases h
  next hd => simpa using hostPart_drawHostClock hd

theorem hostPart_execSchedInit {s t : State} (h : execSchedInit s = .next t) : t.hostPart = s.hostPart := by
  unfold execSchedInit at h
  split at h
  · split at h
    · cases h
    · split at h <;> cases h
      next hd => simpa using hostPart_drawHostClock hd
  · cases h

theorem hostPart_execSchedStep {s t : State} (h : execSchedStep s = .next t) : t.hostPart = s.hostPart := by
  unfold execSchedStep at h
  split at h
  · split at h <;> cases h
    next hd => simpa using hostPart_drawHostClock hd
  · cases h

theorem hostPart_execSysInit {s t : State} (h : execSysInit s = .next t) : t.hostPart = s.hostPart := by
  unfold execSysInit at h
  split at h <;> cases h
  rfl

theorem hostPart_execSysRun {s t : State} (h : execSysRun s = .next t) : t.hostPart = s.hostPart := by
  unfold execSysRun at h
  split at h <;> cases h
  rfl

theorem hostPart_execSysDeinit {s t : State} (h : execSysDeinit s = .next t) : t.hostPart = s.hostPart := by
  unfold execSysDeinit at h
  split at h <;> cases h <;> rfl

/-- Whatever operation answers a next state keeps the parameters, the issued requests and the marks. -/
theorem hostPart_exec {i : Instr} {s t : State} (h : exec i s = .next t) : t.hostPart = s.hostPart := by
  cases i with
  | readCounter n => exact hostPart_requireCounter h rfl
  | readMode n => exact hostPart_requireCounter h rfl
  | writeMode n value => exact hostPart_requireCounter h rfl
  | readTarget n => exact hostPart_requireCounter h rfl
  | writeTarget n value => exact hostPart_requireCounter h rfl
  | tick n cycles => exact hostPart_requireCounter h rfl
  | clkCalibrate => exact hostPart_execClkCalibrate h
  | clkRead => exact hostPart_execClkRead h
  | schedInit => exact hostPart_execSchedInit h
  | schedStep => exact hostPart_execSchedStep h
  | sysInit => exact hostPart_execSysInit h
  | sysRun => exact hostPart_execSysRun h
  | sysStop => cases h; rfl
  | sysStep => cases h
  | sysDeinit => exact hostPart_execSysDeinit h
  | writeCounter n operand => cases h

/-- Settles O9: every stage of every operation, the drain loop's iterations included, keeps the part of the state it names. -/
theorem parametersAreConstant : Obligations.ParametersAreConstant := by
  intro i s t h
  obtain ⟨hparams, hrequests, -, -⟩ := hostPart_eq_iff.mp (hostPart_exec h)
  exact ⟨hparams, hrequests⟩

end Sys2Proof.Machine

/-! SUPPORT. The completing operations, said once: the guard each of them passes and the next state it answers. The statements about
what an operation keeps are case analyses of this relation. -/

namespace Sys2Proof.Machine

/-- Operation `i` completes in `s` with the next state `t`: one constructor for each operation and each of its completing branches
(10_state.md R44). -/
inductive Completes : Instr → State → State → Prop
  | readCounter {s : State} (n : CounterId) (hi : s.sys.initialized = true) :
    Completes (.readCounter n) s (s.setResult (.word (s.counterOf n).counter))
  | readMode {s : State} (n : CounterId) (hi : s.sys.initialized = true) :
    Completes (.readMode n) s (s.setResult (.word (s.counterOf n).mode))
  | writeMode {s : State} (n : CounterId) (value : Word) (hi : s.sys.initialized = true) :
    Completes (.writeMode n value) s ((busWriteMode n value s).setResult .none)
  | readTarget {s : State} (n : CounterId) (hi : s.sys.initialized = true) :
    Completes (.readTarget n) s (s.setResult (.word (s.counterOf n).target))
  | writeTarget {s : State} (n : CounterId) (value : Word) (hi : s.sys.initialized = true) :
    Completes (.writeTarget n value) s ((busWriteTarget n value s).setResult .none)
  | tick {s : State} (n : CounterId) (cycles : Word) (hi : s.sys.initialized = true) :
    Completes (.tick n cycles) s ((tickCounter n cycles s).setResult (.wrapped (tickWraps n cycles s)))
  | clkCalibrate {s : State} (f : ℕ+) (hc : s.clk.calibrated = false) (hf : s.params.hostTickFrequency = some f) :
    Completes .clkCalibrate s
      ((s.setClk { s.clk with calibrated := true, resolution := 1000 / ((f : Nat) : Millis) }).setResult .none)
  | clkRead {s u : State} {v : HostTicks} (hd : drawHostClock s = some (v, u)) :
    Completes .clkRead s (u.setResult (.hostTicks v))
  | schedInit {s u : State} {v : HostTicks} (hc : s.clk.calibrated = true) (hs : s.sch.started = false)
    (hd : drawHostClock s = some (v, u)) : Completes .schedInit s ((u.setSch (startedScheduler v)).setResult .none)
  | schedStep {s u : State} {v : HostTicks} (hs : s.sch.started = true) (hd : drawHostClock s = some (v, u)) :
    Completes .schedStep s ((schedCall v u).setResult .none)
  | sysInit {s : State} (hi : s.sys.initialized = false) :
    Completes .sysInit s (((constructCounters s).setSys
      { initialized := true, running := false, cpuHandle := true, gpuHandle := true }).setResult .none)
  | sysRun {s : State} (hi : s.sys.initialized = true) :
    Completes .sysRun s ((s.setSys { s.sys with running := true }).setResult .none)
  | sysStop {s : State} : Completes .sysStop s ((s.setSys { s.sys with running := false }).setResult .none)
  | sysDeinit {s : State} (hi : s.sys.initialized = true) :
    Completes .sysDeinit s (((destroyCounters s).setSys
      { initialized := false, running := false, cpuHandle := false, gpuHandle := false }).setResult .none)
  | sysDeinitAbsent {s : State} (hi : s.sys.initialized = false) : Completes .sysDeinit s (s.setResult .none)

/-- A counter operation completes by completing on an initialized System (42_rootcounter.md R153). -/
theorem completes_of_requireCounter {i : Instr} {s t u : State} (h : requireCounter s (.next u) = .next t)
    (hu : s.sys.initialized = true → Completes i s u) : Completes i s t := by
  obtain ⟨hi, rfl⟩ := requireCounter_next h
  exact hu hi

theorem completes_of_execClkCalibrate {s t : State} (h : execClkCalibrate s = .next t) : Completes .clkCalibrate s t := by
  unfold execClkCalibrate at h
  split at h
  · cases h
  next hc =>
    split at h <;> cases h
    next f hf => exact .clkCalibrate f (eq_false_of_ne_true hc) hf

theorem completes_of_execClkRead {s t : State} (h : execClkRead s = .next t) : Completes .clkRead s t := by
  unfold execClkRead at h
  split at h <;> cases h
  next hd => exact .clkRead hd

theorem completes_of_execSchedInit {s t : State} (h : execSchedInit s = .next t) : Completes .schedInit s t := by
  unfold execSchedInit at h
  split at h
  next hc =>
    split at h
    · cases h
    next hs =>
      split at h <;> cases h
      next hd => exact .schedInit hc (eq_false_of_ne_true hs) hd
  · cases h

theorem completes_of_execSchedStep {s t : State} (h : execSchedStep s = .next t) : Completes .schedStep s t := by
  unfold execSchedStep at h
  split at h
  next hs =>
    split at h <;> cases h
    next hd => exact .schedStep hs hd
  · cases h

theorem completes_of_execSysInit {s t : State} (h : execSysInit s = .next t) : Completes .sysInit s t := by
  unfold execSysInit at h
  split at h <;> cases h
  next hi => exact .sysInit (eq_false_of_ne_true hi)

theorem completes_of_execSysRun {s t : State} (h : execSysRun s = .next t) : Completes .sysRun s t := by
  unfold execSysRun at h
  split at h <;> cases h
  next hi => exact .sysRun hi

theorem completes_of_execSysDeinit {s t : State} (h : execSysDeinit s = .next t) : Completes .sysDeinit s t := by
  unfold execSysDeinit at h
  split at h <;> cases h
  next hi => exact .sysDeinit hi
  next hi => exact .sysDeinitAbsent (eq_false_of_ne_true hi)

/-- An operation that answers a next state completes with it. -/
theorem completes_of_exec {i : Instr} {s t : State} (h : exec i s = .next t) : Completes i s t := by
  cases i with
  | readCounter n => exact completes_of_requireCounter h (.readCounter n)
  | readMode n => exact completes_of_requireCounter h (.readMode n)
  | writeMode n value => exact completes_of_requireCounter h (.writeMode n value)
  | readTarget n => exact completes_of_requireCounter h (.readTarget n)
  | writeTarget n value => exact completes_of_requireCounter h (.writeTarget n value)
  | tick n cycles => exact completes_of_requireCounter h (.tick n cycles)
  | clkCalibrate => exact completes_of_execClkCalibrate h
  | clkRead => exact completes_of_execClkRead h
  | schedInit => exact completes_of_execSchedInit h
  | schedStep => exact completes_of_execSchedStep h
  | sysInit => exact completes_of_execSysInit h
  | sysRun => exact completes_of_execSysRun h
  | sysStop => cases h; exact .sysStop
  | sysStep => cases h
  | sysDeinit => exact completes_of_execSysDeinit h
  | writeCounter n operand => cases h

/-- An operation that completes answers that next state. -/
theorem exec_of_completes {i : Instr} {s t : State} (h : Completes i s t) : exec i s = .next t := by
  cases h with
  | readCounter n hi | readMode n hi | readTarget n hi => exact requireCounter_initialized hi _
  | writeMode n value hi | writeTarget n value hi => exact requireCounter_initialized hi _
  | tick n cycles hi => exact requireCounter_initialized hi _
  | clkCalibrate f hc hf => simp [exec, execClkCalibrate, hc, hf]
  | clkRead hd => simp [exec, execClkRead, hd]
  | schedInit hc hs hd => simp [exec, execSchedInit, hc, hs, hd]
  | schedStep hs hd => simp [exec, execSchedStep, hs, hd]
  | sysInit hi => simp [exec, execSysInit, hi]
  | sysRun hi => simp [exec, execSysRun, hi]
  | sysStop => rfl
  | sysDeinit hi => simp [exec, execSysDeinit, hi]
  | sysDeinitAbsent hi => simp [exec, execSysDeinit, hi]

end Sys2Proof.Machine

/-! SUPPORT. What a counter's registers read after a bus write and after a result is given back. -/

namespace Sys2Proof.Machine

@[simp] theorem counterOf_setResult (s : State) (r : Result) (n : CounterId) : (s.setResult r).counterOf n = s.counterOf n :=
  rfl

@[simp] theorem counterOf_busWriteMode_same (n : CounterId) (value : Word) (s : State) :
    (busWriteMode n value s).counterOf n = { s.counterOf n with mode := value } :=
  counterOf_setMode_same s n value

@[simp] theorem counterOf_busWriteMode_ne {n k : CounterId} (value : Word) (s : State) (h : k ≠ n) :
    (busWriteMode n value s).counterOf k = s.counterOf k :=
  counterOf_setMode_ne s value h

@[simp] theorem counterOf_busWriteTarget_same (n : CounterId) (value : Word) (s : State) :
    (busWriteTarget n value s).counterOf n = { s.counterOf n with target := targetOperand value } :=
  counterOf_setTarget_same s n (targetOperand value)

@[simp] theorem counterOf_busWriteTarget_ne {n k : CounterId} (value : Word) (s : State) (h : k ≠ n) :
    (busWriteTarget n value s).counterOf k = s.counterOf k :=
  counterOf_setTarget_ne s (targetOperand value) h

end Sys2Proof.Machine

/-! SUPPORT. A Scheduler call stage by stage: which parts of the state each stage leaves alone, and what the whole call leaves of the
Scheduler (41_scheduler.md R110 to R120). -/

namespace Sys2Proof.Machine

/-! Steps 3 to 5. -/

@[simp] theorem schedEmulate_clk (span : Millis) (s : State) : (schedEmulate span s).clk = s.clk := by
  obtain ⟨hclk, -⟩ := drainLoop_frame (s.params.maxStepsPerCall : Nat) (schedAccumulate span s)
  exact hclk

@[simp] theorem schedEmulate_sys (span : Millis) (s : State) : (schedEmulate span s).sys = s.sys := by
  obtain ⟨-, hsys, -⟩ := drainLoop_frame (s.params.maxStepsPerCall : Nat) (schedAccumulate span s)
  exact hsys

/-- Of the Scheduler, steps 3 to 5 write the accumulator and the cycle total. -/
theorem schedEmulate_sch (span : Millis) (s : State) :
    (schedEmulate span s).sch =
      { s.sch with
        spanAccumulator := (schedEmulate span s).sch.spanAccumulator
        totalCycles := (schedEmulate span s).sch.totalCycles } := by
  have hdrain : (schedDrain (schedAccumulate span s)).1.sch = _ := drainLoop_sch _ _
  simp only [schedEmulate, schedCount, schedClampBacklog, State.setSch_sch]
  rw [hdrain]
  rfl

/-! Steps 6 and 7. -/

@[simp] theorem schedRender_rc (span : Millis) (s : State) : (schedRender span s).rc = s.rc := by
  unfold schedRender; split <;> rfl

@[simp] theorem schedRender_clk (span : Millis) (s : State) : (schedRender span s).clk = s.clk := by
  unfold schedRender; split <;> rfl

@[simp] theorem schedRender_sys (span : Millis) (s : State) : (schedRender span s).sys = s.sys := by
  unfold schedRender; split <;> rfl

/-- Of the Scheduler, render pacing writes its own accumulator and the count of renders (R117). -/
theorem schedRender_sch (span : Millis) (s : State) :
    (schedRender span s).sch =
      { s.sch with
        renderTimeSpan :=
          if Config.renderPeriodMs ≤ s.sch.renderTimeSpan + span then 0 else s.sch.renderTimeSpan + span
        fpsCounter := (schedRender span s).sch.fpsCounter } := by
  unfold schedRender; split <;> rfl

@[simp] theorem schedFps_rc (span : Millis) (s : State) : (schedFps span s).rc = s.rc := by
  unfold schedFps; split <;> rfl

@[simp] theorem schedFps_clk (span : Millis) (s : State) : (schedFps span s).clk = s.clk := by
  unfold schedFps; split <;> rfl

@[simp] theorem schedFps_sys (span : Millis) (s : State) : (schedFps span s).sys = s.sys := by
  unfold schedFps; split <;> rfl

/-- Of the Scheduler, FPS pacing writes its own accumulator, the count of renders and the published value (R118). -/
theorem schedFps_sch (span : Millis) (s : State) :
    (schedFps span s).sch =
      { s.sch with
        fpsTimeSpan := if Config.fpsWindowMs ≤ s.sch.fpsTimeSpan + span then 0 else s.sch.fpsTimeSpan + span
        fpsCounter := (schedFps span s).sch.fpsCounter
        fpsValue := (schedFps span s).sch.fpsValue } := by
  unfold schedFps; split <;> rfl

/-! The whole call. -/

theorem schedCall_rc (sample : HostTicks) (s : State) :
    (schedCall sample s).rc = (schedEmulate (clampedSpan s sample) (schedSample sample s)).rc := by
  simp [schedCall, schedPace]

@[simp] theorem schedCall_clk (sample : HostTicks) (s : State) : (schedCall sample s).clk = s.clk := by
  simp [schedCall, schedPace, schedSample]

@[simp] theorem schedCall_sys (sample : HostTicks) (s : State) : (schedCall sample s).sys = s.sys := by
  simp [schedCall, schedPace, schedSample]

/-- What a call leaves of the Scheduler: the samples and the pacing accumulators, given by the draw and the span; the backlog, the
totals and the FPS figures stand as the stages leave them. -/
theorem schedCall_sch (sample : HostTicks) (s : State) :
    (schedCall sample s).sch =
      { started := s.sch.started
        previous := sample
        current := sample
        totalCycles := (schedCall sample s).sch.totalCycles
        spanAccumulator := (schedEmulate (clampedSpan s sample) (schedSample sample s)).sch.spanAccumulator
        renderTimeSpan :=
          if Config.renderPeriodMs ≤ s.sch.renderTimeSpan + clampedSpan s sample then 0
          else s.sch.renderTimeSpan + clampedSpan s sample
        fpsTimeSpan :=
          if Config.fpsWindowMs ≤ s.sch.fpsTimeSpan + clampedSpan s sample then 0
          else s.sch.fpsTimeSpan + clampedSpan s sample
        fpsCounter := (schedCall sample s).sch.fpsCounter
        fpsValue := (schedCall sample s).sch.fpsValue } := by
  unfold schedCall schedPace
  rw [schedFps_sch, schedRender_sch, schedEmulate_sch]
  rfl

/-! The events. -/

@[simp] theorem cpuStep_trace (s : State) : (cpuStep s).trace = s.trace := by
  rw [cpuStep_frame]

/-- One counter's part of SYS_STEP takes no event back (10_state.md R41). -/
theorem trace_grows_tickWithAdapter (n : CounterId) (s : State) : s.trace <+: (tickWithAdapter n s).trace := by
  rw [trace_tickWithAdapter]
  exact List.prefix_append _ _

theorem trace_grows_sysStep (s : State) : s.trace <+: (sysStep s).trace := by
  unfold sysStep
  split
  · calc s.trace = (cpuStep s).trace := (cpuStep_trace s).symm
      _ <+: (tickWithAdapter .c0 (cpuStep s)).trace := trace_grows_tickWithAdapter _ _
      _ <+: (tickWithAdapter .c1 (tickWithAdapter .c0 (cpuStep s))).trace := trace_grows_tickWithAdapter _ _
      _ <+: _ := trace_grows_tickWithAdapter _ _
  · exact List.prefix_refl _

theorem trace_grows_schedEmulate (span : Millis) (s : State) : s.trace <+: (schedEmulate span s).trace :=
  drainLoop_induction (P := fun t => s.trace <+: t.trace) (fun t _ ht => ht.trans (trace_grows_sysStep t)) _
    (schedAccumulate span s) (List.prefix_refl _)

theorem trace_grows_schedRender (span : Millis) (s : State) : s.trace <+: (schedRender span s).trace := by
  unfold schedRender
  split
  · exact List.prefix_append _ _
  · exact List.prefix_refl _

theorem trace_grows_schedFps (span : Millis) (s : State) : s.trace <+: (schedFps span s).trace := by
  unfold schedFps
  split
  · exact List.prefix_append _ _
  · exact List.prefix_refl _

theorem trace_grows_schedCall (sample : HostTicks) (s : State) : s.trace <+: (schedCall sample s).trace :=
  ((trace_grows_schedEmulate _ (schedSample sample s)).trans (trace_grows_schedRender _ _)).trans
    (trace_grows_schedFps _ _)

end Sys2Proof.Machine

/-! SUPPORT. The invariant of the machine, part by part: what keeps the counters in range, and what a Scheduler call leaves of the
backlog and of the pacing accumulators; then each operation, and the step. -/

namespace Sys2Proof.Machine

/-! The counters (10_state.md R21, R22). -/

/-- TICK keeps a counter in range: below the limit it counts to at most 0xFFFE, and at the limit it wraps to 0. -/
theorem inRange_tickRegisters {c : RootCounter} (h : c.InRange) (cycles : Word) : (tickRegisters c cycles).1.InRange := by
  obtain ⟨hcounter, htarget⟩ := h
  rcases tickRegisters_cases c cycles with ⟨-, hc⟩ | ⟨-, -, hc⟩ | ⟨-, hlt, hc⟩ <;> rw [hc]
  · exact ⟨hcounter, htarget⟩
  · exact ⟨Nat.zero_le _, htarget⟩
  · refine ⟨?_, htarget⟩
    have hlimit := wrapLimit_le (mode := c.mode) htarget
    change (BitVec.ofNat 32 (tickSum c.counter cycles)).toNat ≤ 0xFFFE
    rw [counted_toNat hlt]
    omega

theorem countersInRange_replicate_zero {s : State}
    (h : s.rc = PerCounter.replicate { counter := 0, target := 0, mode := 0 }) : s.CountersInRange := by
  intro n
  rw [counterOf_eq, h, perGet_replicate]
  exact ⟨Nat.zero_le _, Nat.zero_le _⟩

/-- Only the counter that changes needs looking at. -/
theorem countersInRange_of_others {s t : State} (h : s.CountersInRange) (n : CounterId)
    (hothers : ∀ k, k ≠ n → t.counterOf k = s.counterOf k) (hn : (t.counterOf n).InRange) : t.CountersInRange := by
  intro k
  by_cases hk : k = n
  · exact hk ▸ hn
  · rw [hothers k hk]
    exact h k

theorem countersInRange_busWriteMode {s : State} (h : s.CountersInRange) (n : CounterId) (value : Word) :
    (busWriteMode n value s).CountersInRange := by
  refine countersInRange_of_others h n (fun k hk => counterOf_busWriteMode_ne value s hk) ?_
  rw [counterOf_busWriteMode_same]
  exact h n

theorem countersInRange_busWriteTarget {s : State} (h : s.CountersInRange) (n : CounterId) (value : Word) :
    (busWriteTarget n value s).CountersInRange := by
  obtain ⟨hcounter, -⟩ := h n
  refine countersInRange_of_others h n (fun k hk => counterOf_busWriteTarget_ne value s hk) ?_
  rw [counterOf_busWriteTarget_same]
  exact ⟨hcounter, targetOperand_toNat_le value⟩

theorem countersInRange_tickCounter {s : State} (h : s.CountersInRange) (n : CounterId) (cycles : Word) :
    (tickCounter n cycles s).CountersInRange := by
  refine countersInRange_of_others h n (fun k hk => counterOf_tickCounter_ne s cycles hk) ?_
  rw [counterOf_tickCounter_same]
  exact inRange_tickRegisters (h n) cycles

theorem countersInRange_tickWithAdapter {s : State} (h : s.CountersInRange) (n : CounterId) :
    (tickWithAdapter n s).CountersInRange := by
  refine countersInRange_of_others h n (fun k hk => counterOf_tickWithAdapter_ne n s hk) ?_
  rw [counterOf_tickWithAdapter_same]
  exact inRange_tickRegisters (h n) Config.stepCycles

theorem countersInRange_runBusOps {s : State} (h : s.CountersInRange) (ops : List BusOp) :
    (runBusOps ops s).CountersInRange := by
  induction ops generalizing s with
  | nil => exact h
  | cons op ops ih =>
    refine ih ?_
    cases op with
    | readCounter n | readMode n | readTarget n => exact h
    | writeMode n value => exact countersInRange_busWriteMode h n value
    | writeTarget n value => exact countersInRange_busWriteTarget h n value

theorem countersInRange_cpuStep {s : State} (h : s.CountersInRange) : (cpuStep s).CountersInRange := by
  unfold cpuStep
  split
  · exact h
  next ops rest _ => exact countersInRange_runBusOps (s := s.setCpuSteps rest) h ops

theorem countersInRange_sysStep {s : State} (h : s.CountersInRange) : (sysStep s).CountersInRange := by
  unfold sysStep
  split
  · exact countersInRange_tickWithAdapter (countersInRange_tickWithAdapter (countersInRange_tickWithAdapter
      (countersInRange_cpuStep h) .c0) .c1) .c2
  · exact h

theorem countersInRange_schedEmulate {s : State} (h : s.CountersInRange) (span : Millis) :
    (schedEmulate span s).CountersInRange :=
  drainLoop_induction (P := State.CountersInRange) (fun _ _ ht => countersInRange_sysStep ht) _ (schedAccumulate span s) h

theorem countersInRange_schedCall {s : State} (h : s.CountersInRange) (sample : HostTicks) :
    (schedCall sample s).CountersInRange := by
  intro n
  rw [counterOf_congr (schedCall_rc sample s)]
  exact countersInRange_schedEmulate (s := schedSample sample s) h _ n

/-! The Scheduler (R37, R38). -/

/-- On a clock with no negative resolution the span of a call is no negative time (41_scheduler.md R111, R112). -/
theorem clampedSpan_nonneg {s : State} (h : 0 ≤ s.clk.resolution) (sample : HostTicks) : 0 ≤ clampedSpan s sample :=
  le_min (mul_nonneg (Nat.cast_nonneg _) h) (by norm_num [Config.maxSpanMs])

/-- The loop consumes `DT_MS` only where it is left, and the clamp bounds what a capped loop leaves (R114, R115). -/
theorem backlogBounded_schedEmulate {s : State} {span : Millis} (h : 0 ≤ s.sch.spanAccumulator + span) :
    (schedEmulate span s).BacklogBounded := by
  have hdrain : 0 ≤ (schedDrain (schedAccumulate span s)).1.sch.spanAccumulator := by
    refine drainLoop_induction (P := fun t => 0 ≤ t.sch.spanAccumulator) (fun t hdt _ => ?_) _ (schedAccumulate span s) h
    rw [drainOnce_sch]
    exact sub_nonneg.mpr hdt
  exact ⟨le_min hdrain (by norm_num [Config.maxSpanMs]), min_le_right _ _⟩

/-- An accumulator that is reset at its threshold stays below it (R117, R118). -/
theorem resetAtThreshold_bounds {threshold acc span : Millis} (ht : 0 < threshold) (hacc : 0 ≤ acc) (hspan : 0 ≤ span) :
    0 ≤ (if threshold ≤ acc + span then 0 else acc + span) ∧
      (if threshold ≤ acc + span then 0 else acc + span) < threshold := by
  split
  · exact ⟨le_refl 0, ht⟩
  next hlt => exact ⟨add_nonneg hacc hspan, not_le.mp hlt⟩

/-- A Scheduler call keeps the pacing accumulators in their bounds. -/
theorem pacingBounded_schedCall {s : State} (h : s.PacingBounded) {sample : HostTicks} (hspan : 0 ≤ clampedSpan s sample) :
    (schedCall sample s).PacingBounded := by
  obtain ⟨⟨hrender, -⟩, hfps, -⟩ := h
  unfold State.PacingBounded
  rw [schedCall_sch]
  exact ⟨resetAtThreshold_bounds (by norm_num [Config.renderPeriodMs]) hrender hspan,
    resetAtThreshold_bounds (by norm_num [Config.fpsWindowMs]) hfps hspan⟩

/-! The operations. -/

/-- The invariant does not speak of what an operation returns. -/
theorem inv_setResult {s : State} (h : s.Inv) (r : Result) : (s.setResult r).Inv :=
  h

/-- The counters may change as long as they stay in range. -/
theorem inv_of_counters {s t : State} (h : s.Inv) (hrange : t.CountersInRange) (hclk : t.clk = s.clk) (hsch : t.sch = s.sch)
    (hsys : t.sys = s.sys) : t.Inv := by
  obtain ⟨-, hclock, hsamples, hbacklog, hpacing, hlife⟩ := h
  unfold State.Inv State.ClockSane State.SamplesOrdered State.BacklogBounded State.PacingBounded State.LifecycleSane
  rw [hclk, hsch, hsys]
  exact ⟨hrange, hclock, hsamples, hbacklog, hpacing, hlife⟩

/-- The lifecycle operations replace the System's flags, and SYS_INIT and SYS_DEINIT the counters (43_system.md R176). -/
theorem inv_of_system {s t : State} (h : s.Inv) (hrange : t.CountersInRange) (hclk : t.clk = s.clk) (hsch : t.sch = s.sch)
    (hlife : t.LifecycleSane) : t.Inv := by
  obtain ⟨-, hclock, hsamples, hbacklog, hpacing, -⟩ := h
  unfold State.Inv State.ClockSane State.SamplesOrdered State.BacklogBounded State.PacingBounded
  rw [hclk, hsch]
  exact ⟨hrange, hclock, hsamples, hbacklog, hpacing, hlife⟩

/-- A draw moves the last sample forward only (40_cycleclock.md R103). -/
theorem inv_drawHostClock {s t : State} {v : HostTicks} (h : s.Inv) (hd : drawHostClock s = some (v, t)) : t.Inv := by
  obtain ⟨hrange, hclock, hsamples, hbacklog, hpacing, hlife⟩ := h
  obtain ⟨hle, rest, rfl⟩ := drawHostClock_some hd
  refine ⟨hrange, hclock, fun hs => ?_, hbacklog, hpacing, hlife⟩
  obtain ⟨hcurrent, hprevious⟩ := hsamples hs
  exact ⟨hcurrent, BitVec.le_trans hprevious hle⟩

theorem inv_clkCalibrate {s : State} (h : s.Inv) (f : ℕ+) :
    (s.setClk { s.clk with calibrated := true, resolution := 1000 / ((f : Nat) : Millis) }).Inv := by
  obtain ⟨hrange, -, hsamples, hbacklog, hpacing, hlife⟩ := h
  have hf : (0 : Millis) < ((f : Nat) : Millis) := Nat.cast_pos.mpr f.pos
  exact ⟨hrange, ⟨fun _ => div_pos (by norm_num) hf, fun _ => rfl⟩, hsamples, hbacklog, hpacing, hlife⟩

/-- The started Scheduler has its samples at the draw and its accumulators at 0 (41_scheduler.md R123). -/
theorem inv_startedScheduler {s : State} (h : s.Inv) (hc : s.clk.calibrated = true) :
    (s.setSch (startedScheduler s.clk.lastSample)).Inv := by
  obtain ⟨hrange, ⟨hresolution, -⟩, -, -, -, hlife⟩ := h
  refine ⟨hrange, ⟨hresolution, fun _ => hc⟩, fun _ => ⟨rfl, BitVec.le_refl _⟩, ?_, ?_, hlife⟩
  · norm_num [State.BacklogBounded, startedScheduler, Config.maxSpanMs]
  · norm_num [State.PacingBounded, startedScheduler, Config.renderPeriodMs, Config.fpsWindowMs]

/-- A call on a started Scheduler with its own draw as the sample. -/
theorem inv_schedCall {s : State} (h : s.Inv) (hs : s.sch.started = true) : (schedCall s.clk.lastSample s).Inv := by
  obtain ⟨hrange, ⟨hresolution, hcalibrated⟩, -, ⟨hbacklog, -⟩, hpacing, hlife⟩ := h
  have hspan : 0 ≤ clampedSpan s s.clk.lastSample := clampedSpan_nonneg (hresolution (hcalibrated hs)).le _
  refine ⟨countersInRange_schedCall hrange _, ?_, ?_, ?_, pacingBounded_schedCall hpacing hspan, ?_⟩
  · unfold State.ClockSane
    rw [schedCall_clk, schedCall_sch]
    exact ⟨hresolution, hcalibrated⟩
  · unfold State.SamplesOrdered
    rw [schedCall_clk, schedCall_sch]
    exact fun _ => ⟨rfl, BitVec.le_refl _⟩
  · unfold State.BacklogBounded
    rw [schedCall_sch]
    exact backlogBounded_schedEmulate (s := schedSample s.clk.lastSample s) (add_nonneg hbacklog hspan)
  · unfold State.LifecycleSane
    rw [schedCall_sys]
    exact hlife

/-- Every operation that completes keeps the invariant. -/
theorem inv_of_completes {i : Instr} {s t : State} (h : s.Inv) (hc : Completes i s t) : t.Inv := by
  have ⟨hrange, _, _, _, _, _, hhandles⟩ := h
  cases hc with
  | readCounter | readMode | readTarget => exact inv_setResult h _
  | writeMode n value _ => exact inv_of_counters h (countersInRange_busWriteMode hrange n value) rfl rfl rfl
  | writeTarget n value _ => exact inv_of_counters h (countersInRange_busWriteTarget hrange n value) rfl rfl rfl
  | tick n cycles _ => exact inv_of_counters h (countersInRange_tickCounter hrange n cycles) rfl rfl rfl
  | clkCalibrate f _ _ => exact inv_setResult (inv_clkCalibrate h f) _
  | clkRead hd => exact inv_setResult (inv_drawHostClock h hd) _
  | schedInit hcal _ hd =>
    have hu := inv_drawHostClock h hd
    obtain ⟨-, rest, rfl⟩ := drawHostClock_some hd
    exact inv_setResult (inv_startedScheduler hu hcal) _
  | schedStep hs hd =>
    have hu := inv_drawHostClock h hd
    obtain ⟨-, rest, rfl⟩ := drawHostClock_some hd
    exact inv_setResult (inv_schedCall hu hs) _
  | sysInit => exact inv_of_system h (countersInRange_replicate_zero rfl) rfl rfl ⟨fun _ => rfl, rfl, rfl⟩
  | sysRun hi => exact inv_of_system h hrange rfl rfl ⟨fun _ => hi, hhandles⟩
  | sysStop => exact inv_of_system h hrange rfl rfl ⟨fun hr => absurd hr Bool.false_ne_true, hhandles⟩
  | sysDeinit =>
    exact inv_of_system h (countersInRange_replicate_zero rfl) rfl rfl
      ⟨fun hr => absurd hr Bool.false_ne_true, rfl, rfl⟩
  | sysDeinitAbsent => exact inv_setResult h _

end Sys2Proof.Machine

/-! SUPPORT. What a step is (10_state.md R42, R44): nothing issued, the decoder's refusal, or the decoded operation; and which refusals
leave the mark. -/

namespace Sys2Proof.Machine

/-! The step of an unmarked state. -/

theorem step_idle {s : State} (hs : s.Unmarked) (h : s.inputs.requests = []) : step s = .next s := by
  simp [step, hs.1, hs.2, h]

theorem step_of_decode {s : State} {r : Request} {rest : List Request} {i : Instr} (hs : s.Unmarked)
    (h : s.inputs.requests = r :: rest) (hi : decode r = .ok i) : step s = exec i (s.setRequests rest) := by
  simp [step, hs.1, hs.2, h, hi]

theorem step_of_decode_error {s : State} {r : Request} {rest : List Request} {e : DecodeError} (hs : s.Unmarked)
    (h : s.inputs.requests = r :: rest) (he : decode r = .error e) : step s = .refused (decodeRefusal e) := by
  simp [step, hs.1, hs.2, h, he]

/-- Everything a step can be: without effect on a marked state, idle, the decoder's refusal, or the decoded operation. -/
theorem step_cases (s : State) :
    (s.faulted = true ∧ step s = .fault .alreadyFaulted) ∨
    (s.refused = true ∧ step s = .refused .alreadyRefused) ∨
    (s.Unmarked ∧ step s = .next s) ∨
    (s.Unmarked ∧ ∃ e, step s = .refused (decodeRefusal e)) ∨
    (s.Unmarked ∧ ∃ i rest, step s = exec i (s.setRequests rest)) := by
  by_cases hf : s.faulted = true
  · exact .inl ⟨hf, by simp [step, hf]⟩
  by_cases hr : s.refused = true
  · exact .inr (.inl ⟨hr, by simp [step, hf, hr]⟩)
  have hs : s.Unmarked := ⟨by simpa using hf, by simpa using hr⟩
  cases hq : s.inputs.requests with
  | nil => exact .inr (.inr (.inl ⟨hs, step_idle hs hq⟩))
  | cons r rest =>
    cases hd : decode r with
    | error e => exact .inr (.inr (.inr (.inl ⟨hs, e, step_of_decode_error hs hq hd⟩)))
    | ok i => exact .inr (.inr (.inr (.inr ⟨hs, i, rest, step_of_decode hs hq hd⟩)))

/-! The refusal that is no operation's own. -/

theorem requireCounter_next_ne_alreadyRefused (s u : State) : requireCounter s (.next u) ≠ .refused .alreadyRefused := by
  unfold requireCounter
  split <;> simp

/-- No operation has the refusal that stands for "no step" of a refused state (assumption log 13). -/
theorem exec_ne_alreadyRefused (i : Instr) (s : State) : exec i s ≠ .refused .alreadyRefused := by
  cases i with
  | readCounter n | readMode n | readTarget n => exact requireCounter_next_ne_alreadyRefused s _
  | writeMode n value | writeTarget n value => exact requireCounter_next_ne_alreadyRefused s _
  | tick n cycles => exact requireCounter_next_ne_alreadyRefused s _
  | clkCalibrate =>
    simp only [exec, execClkCalibrate]
    split
    · simp
    · split <;> simp
  | clkRead => simp only [exec, execClkRead]; split <;> simp
  | schedInit =>
    simp only [exec, execSchedInit]
    split
    · split
      · simp
      · split <;> simp
    · simp
  | schedStep =>
    simp only [exec, execSchedStep]
    split
    · split <;> simp
    · simp
  | sysInit => simp only [exec, execSysInit]; split <;> simp
  | sysRun => simp only [exec, execSysRun]; split <;> simp
  | sysDeinit => simp only [exec, execSysDeinit]; split <;> simp
  | sysStop | sysStep | writeCounter n operand => simp [exec, execSysStop, execSysStep, execWriteCounter]

theorem decodeRefusal_ne_alreadyRefused (e : DecodeError) : decodeRefusal e ≠ .alreadyRefused := by
  cases e <;> simp [decodeRefusal]

/-- A step of a state without the mark `refused` is not refused for that mark. -/
theorem step_ne_alreadyRefused {s : State} (h : s.refused = false) : step s ≠ .refused .alreadyRefused := by
  rcases step_cases s with ⟨-, hs⟩ | ⟨hr, -⟩ | ⟨-, hs⟩ | ⟨-, e, hs⟩ | ⟨-, i, rest, hs⟩
  · simp [hs]
  · simp [h] at hr
  · simp [hs]
  · simpa [hs] using decodeRefusal_ne_alreadyRefused e
  · exact hs ▸ exec_ne_alreadyRefused i _

/-- A refusal of an operation or of the decoder leaves the mark `refused` (R42). -/
theorem settle_refused (s : State) {why : Refusal} (h : why ≠ .alreadyRefused) :
    s.settle (.refused why) = { s with refused := true } := by
  cases why <;> first | rfl | exact absurd rfl h

/-- A marked state has no step (R42). -/
theorem step_ne_next_of_marked {s : State} (h : s.faulted = true ∨ s.refused = true) (t : State) : step s ≠ .next t := by
  unfold step
  rcases h with h | h
  · simp [h]
  · rw [h]
    split <;> simp

end Sys2Proof.Machine

/-! The statements about the step, the start of a run and the whole machine. -/

namespace Sys2Proof.Machine

/-- Settles O12: a step is idle or one operation, and each operation keeps each part of the invariant it can change. -/
theorem everyStepKeepsInvariant : Obligations.EveryStepKeepsInvariant := by
  intro s t hinv h
  rcases step_cases s with ⟨-, hs⟩ | ⟨-, hs⟩ | ⟨-, hs⟩ | ⟨-, e, hs⟩ | ⟨-, i, rest, hs⟩ <;> rw [hs] at h
  · cases h
  · cases h
  · cases h; exact hinv
  · cases h
  · exact inv_of_completes (s := s.setRequests rest) hinv (completes_of_exec h)

/-- Settles O8: `exec` keeps the marks, and `State.settle` sets one at every stop that is not itself the answer of a marked state. -/
theorem marksAreForGood : Obligations.MarksAreForGood := by
  refine ⟨fun i s t h => ?_, fun s h => ?_, fun s why h hs => ?_, fun s t h => step_ne_next_of_marked h t⟩
  · obtain ⟨-, -, hfaulted, hrefused⟩ := hostPart_eq_iff.mp (hostPart_exec h)
    exact ⟨hfaulted, hrefused⟩
  · rw [h]
    rfl
  · have hwhy : why ≠ .alreadyRefused := fun he => step_ne_alreadyRefused hs (he ▸ h)
    rw [h, settle_refused s hwhy]

/-- Settles O30: only CLK_CALIBRATE writes the resolution, and it completes only on a clock not calibrated. -/
theorem resolutionIsFixedOnceCalibrated : Obligations.ResolutionIsFixedOnceCalibrated := by
  intro i s t h hcal
  cases completes_of_exec h with
  | readCounter | readMode | writeMode | readTarget | writeTarget | tick => exact ⟨hcal, rfl⟩
  | sysInit | sysRun | sysStop | sysDeinit | sysDeinitAbsent => exact ⟨hcal, rfl⟩
  | clkCalibrate f hc _ => simp [hc] at hcal
  | clkRead hd | schedInit _ _ hd =>
    obtain ⟨-, rest, rfl⟩ := drawHostClock_some hd
    exact ⟨hcal, rfl⟩
  | schedStep _ hd =>
    obtain ⟨-, rest, rfl⟩ := drawHostClock_some hd
    simpa using hcal

/-- Settles O53: each operation that is none of the writers leaves `rc`, or writes another counter of it. -/
theorem registersHaveNoOtherWriter : Obligations.RegistersHaveNoOtherWriter := by
  intro i s t n h hmode htarget htick hstep hinit hdeinit
  cases completes_of_exec h with
  | readCounter | readMode | readTarget | clkCalibrate | sysRun | sysStop | sysDeinitAbsent => rfl
  | writeMode k value _ =>
    have hn : n ≠ k := fun e => hmode value (e ▸ rfl)
    exact counterOf_busWriteMode_ne value s hn
  | writeTarget k value _ =>
    have hn : n ≠ k := fun e => htarget value (e ▸ rfl)
    exact counterOf_busWriteTarget_ne value s hn
  | tick k cycles _ =>
    have hn : n ≠ k := fun e => htick cycles (e ▸ rfl)
    exact counterOf_tickCounter_ne s cycles hn
  | clkRead hd | schedInit _ _ hd =>
    obtain ⟨-, rest, rfl⟩ := drawHostClock_some hd
    rfl
  | schedStep => exact absurd rfl hstep
  | sysInit => exact absurd rfl hinit
  | sysDeinit => exact absurd rfl hdeinit

/-- Settles O54: every stage of a Scheduler call only appends events, and no other operation writes the trace. -/
theorem onlySchedStepEmits : Obligations.OnlySchedStepEmits := by
  intro i s t h
  cases completes_of_exec h with
  | readCounter | readMode | writeMode | readTarget | writeTarget | tick | clkCalibrate =>
    exact ⟨List.prefix_refl _, fun _ => rfl⟩
  | sysInit | sysRun | sysStop | sysDeinit | sysDeinitAbsent => exact ⟨List.prefix_refl _, fun _ => rfl⟩
  | clkRead hd | schedInit _ _ hd =>
    obtain ⟨-, rest, rfl⟩ := drawHostClock_some hd
    exact ⟨List.prefix_refl _, fun _ => rfl⟩
  | @schedStep _ _ v _ hd =>
    obtain ⟨-, rest, rfl⟩ := drawHostClock_some hd
    exact ⟨trace_grows_schedCall v (s.takeSample v rest), fun hne => absurd rfl hne⟩

/-- Settles O7: the three cases of the step of an unmarked state. -/
theorem stepRunsTheDecodedOperation : Obligations.StepRunsTheDecodedOperation :=
  fun _ hs => ⟨fun _ _ _ => step_of_decode hs, fun _ _ _ => step_of_decode_error hs, step_idle hs⟩

/-- Settles O11: at reset the clock is not calibrated, the Scheduler not started and the System not initialized, so only the bounds of
the zeros are left. -/
theorem startOfARunMeetsInvariant : Obligations.StartOfARunMeetsInvariant := by
  refine ⟨countersInRange_replicate_zero rfl, ⟨fun h => ?_, fun h => ?_⟩, fun h => ?_, ?_, ?_, fun h => ?_, rfl, rfl⟩
  · cases h
  · cases h
  · cases h
  · norm_num [State.BacklogBounded, State.reset, Config.maxSpanMs]
  · norm_num [State.PacingBounded, State.reset, Config.renderPeriodMs, Config.fpsWindowMs]
  · cases h

end Sys2Proof.Machine

/-! The statements about the registers of one counter. -/

namespace Sys2Proof.Machine

/-- Settles O16: WRITE_MODE stores its operand verbatim, and the System stays initialized for the read. -/
theorem modeWordRoundTrips : Obligations.ModeWordRoundTrips := by
  intro s n v hi
  refine ⟨_, _, exec_of_completes (.writeMode n v hi), exec_of_completes (.readMode n hi), ?_⟩
  rw [State.setResult_result, counterOf_setResult, counterOf_busWriteMode_same]

/-- The masked target is the operand modulo 2^16 (10_state.md R22). -/
theorem targetOperand_toNat (value : Word) : (targetOperand value).toNat = value.toNat % 65536 := by
  unfold targetOperand
  rw [BitVec.toNat_and, show (0x0000FFFF#32).toNat = 2 ^ 16 - 1 from rfl, Nat.and_two_pow_sub_one_eq_mod]

/-- Settles O17: WRITE_TARGET stores the masked operand, and the System stays initialized for the read. -/
theorem targetReadsBackMasked : Obligations.TargetReadsBackMasked := by
  intro s n v hi
  refine ⟨_, _, targetOperand v, exec_of_completes (.writeTarget n v hi), exec_of_completes (.readTarget n hi), ?_,
    targetOperand_toNat v⟩
  rw [State.setResult_result, counterOf_setResult, counterOf_busWriteTarget_same]

/-- A field of the mode word, as the number it holds: its bits shifted down (10_state.md R24). -/
theorem extractLsb'_toNat_eq_div_mod (m : Word) (start len : Nat) :
    (m.extractLsb' start len).toNat = m.toNat / 2 ^ start % 2 ^ len := by
  rw [BitVec.extractLsb'_toNat, Nat.shiftRight_eq_div_pow]

theorem getLsbD_toNat_eq_div_mod (m : Word) (i : Nat) : (m.getLsbD i).toNat = m.toNat / 2 ^ i % 2 := by
  rw [BitVec.getLsbD, Nat.toNat_testBit]

/-- Settles O19: each field is the word divided by its position, modulo its width; the widths add up to 32. -/
theorem modeWordIsItsFields : Obligations.ModeWordIsItsFields := by
  intro m
  have hm : m.toNat < 2 ^ 32 := m.isLt
  simp only [modeEn, modeSyncmode, modeResetmode, modeIrqTarget, modeIrq0xffff, modeIrqrepeat, modeIrqpulse, modeClcsrc,
    modeIntreq, modeReachedTarget, modeReached0xffff, modeReserved, extractLsb'_toNat_eq_div_mod, getLsbD_toNat_eq_div_mod]
  omega

end Sys2Proof.Machine

/-! A register access done twice (20_memory.md R55): the second write of the same value finds its registers already written, and a read
reads registers that giving back its result left alone. -/

namespace Sys2Proof.Machine

@[simp] theorem perSet_perSet_same {α : Type} (p : PerCounter α) (n : CounterId) (a b : α) :
    perSet (perSet p n a) n b = perSet p n b := by
  cases n <;> rfl

@[simp] theorem setResult_setResult (s : State) (r r' : Result) : (s.setResult r).setResult r' = s.setResult r' := rfl

@[simp] theorem busWriteMode_setResult (n : CounterId) (value : Word) (s : State) (r : Result) :
    busWriteMode n value (s.setResult r) = (busWriteMode n value s).setResult r := rfl

@[simp] theorem busWriteTarget_setResult (n : CounterId) (value : Word) (s : State) (r : Result) :
    busWriteTarget n value (s.setResult r) = (busWriteTarget n value s).setResult r := rfl

@[simp] theorem busWriteMode_busWriteMode (n : CounterId) (value : Word) (s : State) :
    busWriteMode n value (busWriteMode n value s) = busWriteMode n value s := by
  simp [busWriteMode, State.setMode, State.setCounterOf, State.setOneshotFired, State.counterOf]

@[simp] theorem busWriteTarget_busWriteTarget (n : CounterId) (value : Word) (s : State) :
    busWriteTarget n value (busWriteTarget n value s) = busWriteTarget n value s := by
  simp [busWriteTarget, State.setTarget, State.setCounterOf, State.counterOf]

/-- Settles O18: each access leaves a state on which it completes again, with that same state as the next one. -/
theorem registerAccessesAreIdempotent : Obligations.RegisterAccessesAreIdempotent := by
  intro s t n v i hmem h
  apply exec_of_completes
  simp only [List.mem_cons, List.not_mem_nil, or_false] at hmem
  obtain rfl | rfl | rfl | rfl | rfl := hmem <;> cases completes_of_exec h
  case readCounter hi => exact .readCounter n hi
  case readMode hi => exact .readMode n hi
  case readTarget hi => exact .readTarget n hi
  case writeMode hi =>
    simpa using Completes.writeMode (s := (busWriteMode n v s).setResult .none) n v hi
  case writeTarget hi =>
    simpa using Completes.writeTarget (s := (busWriteTarget n v s).setResult .none) n v hi

end Sys2Proof.Machine

/-! The width of a register access (20_memory.md R53). -/

namespace Sys2Proof

/-- TICK is of format P: bit 7 of its code is set (30_encoding.md R72). -/
theorem getLsbD_seven_encodeCode_tick (n : CounterId) : (encodeCode (.tick n)).getLsbD 7 = true := by
  cases n <;> rfl

/-- The operations of a counter with a format B code are the five register accesses: TICK, the other one, is of format P (R72). -/
theorem registerAccess_of_formatB {i : Instr} {n : CounterId} (hn : i.counterOperation = some n)
    (hb : (encode i).code.getLsbD 7 = false) : (opcodeOf i).registerAccess = true := by
  cases i with
  | readCounter | readMode | writeMode | readTarget | writeTarget => rfl
  | tick k cycles => exact absurd hb (ne_false_of_eq_true (getLsbD_seven_encodeCode_tick k))
  | writeCounter => cases hn
  | clkCalibrate | clkRead | schedInit | schedStep => cases hn
  | sysInit | sysRun | sysStop | sysStep | sysDeinit => cases hn

/-- A register access that presents less than a word is the decoder's narrow access, whatever its operand. -/
theorem decode_narrow {r : Request} {op : Opcode} (hc : decodeCode r.code = some op) (ha : op.registerAccess = true)
    (hw : r.width ≠ .word) : decode r = .error .narrowAccess := by
  have hnarrow : narrowRequest op r.width = true := by simp [narrowRequest, ha, hw]
  simp [decode, hc, hnarrow]

end Sys2Proof

namespace Sys2Proof.Machine

/-- Settles O5: the decoder looks at the width of a register access before its operand, and the System is never asked. -/
theorem narrowAccessIsRefused : Obligations.NarrowAccessIsRefused := by
  intro s i n w rest hs hn hb hw hq
  have hcode : decodeCode (encode i).code = some (opcodeOf i) := decodeCode_encodeCode (opcodeOf i)
  exact step_of_decode_error hs hq (decode_narrow hcode (registerAccess_of_formatB hn hb) hw)

end Sys2Proof.Machine

/-! The round trip of requests, and which requests the decoder accepts (30_encoding.md R70 to R77; 20_memory.md R53). -/

namespace Sys2Proof

/-- Settles O1: the code, the width and the operand of an encoded operation each pass the decoder. -/
theorem decodeOfEncode : Obligations.DecodeOfEncode :=
  fun i => (decode_ok_iff (encode i) i).mpr ⟨decodeCode_encodeCode (opcodeOf i), narrowRequest_word (opcodeOf i), rfl⟩

/-! The codes: those the decoder accepts, and those R75 lists. -/

/-- The decoder accepts the codes of the opcode table's rows and no other (R73, R74, R76). -/
theorem decodeCode_eq_none_iff : ∀ c : Code, decodeCode c = none ↔ c ∉ legalCodes ++ counterWriteCodes := by
  decide +kernel

/-- The codes R75 lists are those without a row. -/
theorem reservedCode_iff : ∀ c : Code, Machine.reservedCode c = true ↔ c ∉ legalCodes ++ counterWriteCodes := by
  decide +kernel

/-- The counter write is the format B write of register 00, with an index other than 3 (R71, R73). -/
theorem mem_counterWriteCodes_iff : ∀ c : Code, c ∈ counterWriteCodes ↔
    c.extractLsb' 4 4 = 4 ∧ c.extractLsb' 2 2 = 0 ∧ c.extractLsb' 0 2 ≠ 3 := by
  decide +kernel

theorem notMem_legalCodes_of_counterWrite {c : Code} (h : c ∈ counterWriteCodes) : c ∉ legalCodes := by
  have disjoint : ∀ c ∈ counterWriteCodes, c ∉ legalCodes := by decide
  exact disjoint c h

/-- The register accesses are the operations of format B but for the counter write (20_memory.md R51). -/
theorem registerAccess_eq (op : Opcode) :
    op.registerAccess = !((encodeCode op).getLsbD 7 || decide (encodeCode op ∈ counterWriteCodes)) := by
  cases op with
  | readCounter n | readMode n | writeMode n | readTarget n | writeTarget n | writeCounter n | tick n => cases n <;> rfl
  | clkCalibrate | clkRead | schedInit | schedStep | sysInit | sysRun | sysStop | sysStep | sysDeinit => rfl

/-! Width and operand, read off the code as `Request.WellFormed` does. -/

theorem narrowRequest_eq_not_widthFits {r : Request} {op : Opcode} (hop : encodeCode op = r.code) :
    narrowRequest op r.width = !r.widthFits := by
  simp [narrowRequest, registerAccess_eq, Request.widthFits, hop, bne]

theorem isSome_attachOperand_eq_operandFits {r : Request} {op : Opcode} (hop : encodeCode op = r.code) :
    (attachOperand op r.operand).isSome = r.operandFits := by
  obtain ⟨code, operand, width⟩ := r
  subst hop
  cases op with
  | readCounter n | readMode n | readTarget n => cases n <;> cases operand <;> rfl
  | writeMode n | writeTarget n | tick n | writeCounter n => cases n <;> cases operand <;> rfl
  | clkCalibrate | clkRead | schedInit | schedStep => cases operand <;> rfl
  | sysInit | sysRun | sysStop | sysStep | sysDeinit => cases operand <;> rfl

/-- Of a request whose code selects an operation, the decoder asks that the access is not narrow and the operand can be attached. -/
theorem exists_decode_ok_iff_of_decodeCode {r : Request} {op : Opcode} (hc : decodeCode r.code = some op) :
    (∃ i, decode r = .ok i) ↔ narrowRequest op r.width = false ∧ (attachOperand op r.operand).isSome = true := by
  cases hn : narrowRequest op r.width <;> cases ha : attachOperand op r.operand <;> simp [decode, hc, hn, ha]

/-- Settles O3: a code without a row fails both sides; with a row, the decoder's checks are the table's. -/
theorem decoderAcceptsExactlyTheTable : Obligations.DecoderAcceptsExactlyTheTable := by
  intro r
  cases hc : decodeCode r.code with
  | none =>
    have hrow : r.code ∉ legalCodes ++ counterWriteCodes := (decodeCode_eq_none_iff r.code).mp hc
    simp [decode, hc, Request.WellFormed, hrow, -List.mem_append]
  | some op =>
    have hop : encodeCode op = r.code := encodeCode_of_decodeCode r.code op hc
    have hrow : r.code ∈ legalCodes ++ counterWriteCodes := by
      by_contra h
      simp [(decodeCode_eq_none_iff r.code).mpr h] at hc
    rw [exists_decode_ok_iff_of_decodeCode hc, narrowRequest_eq_not_widthFits hop, isSome_attachOperand_eq_operandFits hop]
    simp [Request.WellFormed, hrow, -List.mem_append]

/-! The operation decoded and its code. -/

theorem encode_of_decode {r : Request} {i : Instr} (h : decode r = .ok i) : encode i = { r with width := .word } := by
  obtain ⟨hcode, -, hoperand⟩ := (decode_ok_iff r i).mp h
  simp [encode, hoperand, encodeCode_of_decodeCode r.code _ hcode]

/-- Every operation encodes to a request of the table, and to one of the 27 codes exactly where it is legal (R76). -/
theorem codeLegal (i : Instr) : Laws.CodeLegal.Statement i := by
  cases i with
  | readCounter n => exact Laws.CodeLegal.readCounter n
  | readMode n => exact Laws.CodeLegal.readMode n
  | writeMode n value => exact Laws.CodeLegal.writeMode n value
  | readTarget n => exact Laws.CodeLegal.readTarget n
  | writeTarget n value => exact Laws.CodeLegal.writeTarget n value
  | tick n cycles => exact Laws.CodeLegal.tick n cycles
  | clkCalibrate => exact Laws.CodeLegal.clkCalibrate
  | clkRead => exact Laws.CodeLegal.clkRead
  | schedInit => exact Laws.CodeLegal.schedInit
  | schedStep => exact Laws.CodeLegal.schedStep
  | sysInit => exact Laws.CodeLegal.sysInit
  | sysRun => exact Laws.CodeLegal.sysRun
  | sysStop => exact Laws.CodeLegal.sysStop
  | sysStep => exact Laws.CodeLegal.sysStep
  | sysDeinit => exact Laws.CodeLegal.sysDeinit
  | writeCounter n operand => exact Laws.CodeLegal.writeCounter n operand

theorem legal_iff_code_mem_of_decode {r : Request} {i : Instr} (h : decode r = .ok i) :
    i.legal = true ↔ r.code ∈ legalCodes := by
  obtain ⟨-, hlegal⟩ := codeLegal i
  rw [hlegal, encode_of_decode h]

/-- Settles O2: a legal operation's code is no counter write's, so in format B the table holds it to a whole word. -/
theorem encodeOfDecode : Obligations.EncodeOfDecode := by
  intro r i h
  refine ⟨encode_of_decode h, fun hb hl => ?_⟩
  have hmem : r.code ∈ legalCodes := (legal_iff_code_mem_of_decode h).mp hl
  have hwrite : r.code ∉ counterWriteCodes := fun hw => notMem_legalCodes_of_counterWrite hw hmem
  have hwf : r.WellFormed = true := (decoderAcceptsExactlyTheTable r).mp ⟨i, h⟩
  have hword : r.width = .word := by
    simp only [Request.WellFormed, Bool.and_eq_true] at hwf
    obtain ⟨⟨-, hwidth⟩, -⟩ := hwf
    simpa only [Request.widthFits, hb, decide_eq_false hwrite, Bool.false_or, beq_iff_eq] using hwidth
  exact ⟨hword, by rw [encode_of_decode h, ← hword]⟩

end Sys2Proof

/-! The refusal of the codes outside the table (30_encoding.md R75). -/

namespace Sys2Proof.Machine

/-- The one operation that is not legal, the counter write, is refused in every state (42_rootcounter.md R152). -/
theorem exec_of_not_legal {i : Instr} (h : i.legal = false) (s : State) : exec i s = .refused .counterWriteUnsupported := by
  cases i with
  | writeCounter n operand => rfl
  | readCounter | readMode | writeMode | readTarget | writeTarget | tick => cases h
  | clkCalibrate | clkRead | schedInit | schedStep => cases h
  | sysInit | sysRun | sysStop | sysStep | sysDeinit => cases h

theorem decode_reservedCode {r : Request} (h : reservedCode r.code = true) : decode r = .error .reservedEncoding := by
  have hnone : decodeCode r.code = none := (decodeCode_eq_none_iff r.code).mpr ((reservedCode_iff r.code).mp h)
  simp [decode, hnone]

/-- A request without a legal code is refused by the decoder, or by the counter write it decodes to. -/
theorem step_refused_of_notMem_legalCodes {s : State} {r : Request} {rest : List Request} (hs : s.Unmarked)
    (hq : s.inputs.requests = r :: rest) (hr : r.code ∉ legalCodes) : ∃ why, step s = .refused why := by
  cases hd : decode r with
  | error e => exact ⟨_, step_of_decode_error hs hq hd⟩
  | ok i =>
    have hl : i.legal = false := eq_false_of_ne_true fun hl => hr ((legal_iff_code_mem_of_decode hd).mp hl)
    exact ⟨_, (step_of_decode hs hq hd).trans (exec_of_not_legal hl _)⟩

/-- Settles O4: the codes outside the 27 are those without a row and the counter writes; the decoder refuses the former. -/
theorem reservedEncodingsAreRefused : Obligations.ReservedEncodingsAreRefused := by
  refine ⟨fun c => ?_, fun s r rest hs hq hr => step_refused_of_notMem_legalCodes hs hq hr,
    fun s r rest hs hq hr => step_of_decode_error hs hq (decode_reservedCode hr)⟩
  have hdisjoint : c ∈ counterWriteCodes → c ∉ legalCodes := notMem_legalCodes_of_counterWrite
  rw [reservedCode_iff, ← mem_counterWriteCodes_iff, List.mem_append]
  tauto

end Sys2Proof.Machine

namespace Sys2Proof

/-- Settles O6, by evaluating the decoder on each word. -/
theorem sampleWordsDecode : Obligations.SampleWordsDecode := by
  unfold Obligations.SampleWordsDecode
  decide

end Sys2Proof

/-! The pseudo-operations (30_encoding.md R79): each expansion ends with a WRITE_MODE of its counter. -/

namespace Sys2Proof.Machine

theorem execAll_cons_of_completes {i : Instr} {is : List Instr} {s t : State} (h : Completes i s t) :
    execAll (i :: is) s = execAll is t := by
  simp [execAll, exec_of_completes h]

/-- What the last WRITE_MODE of an expansion leaves: the mode word, the other registers, and the one-shot latch clear (R142). -/
theorem execAll_writeMode {s : State} (n : CounterId) (v : Word) (hi : s.sys.initialized = true) :
    ∃ t, execAll [.writeMode n v] s = .next t ∧ t.counterOf n = { s.counterOf n with mode := v } ∧
      t.oneshotFired n = false :=
  ⟨(busWriteMode n v s).setResult .none, execAll_cons_of_completes (.writeMode n v hi), counterOf_busWriteMode_same n v s,
    oneshotFired_setOneshotFired_same _ n false⟩

/-- Masking with ACK's mask clears the status bits 12:10 and keeps every other bit (R79). -/
theorem getLsbD_and_ackMask (m : Word) (i : Nat) :
    (m &&& ackMask).getLsbD i = (m.getLsbD i && !decide (10 ≤ i ∧ i ≤ 12)) := by
  by_cases hi : i < 32
  · have hmask : ∀ i < 32, ackMask.getLsbD i = !decide (10 ≤ i ∧ i ≤ 12) := by decide
    rw [BitVec.getLsbD_and, hmask i hi]
  · simp [BitVec.getLsbD_of_ge m i (by omega)]

/-- Settles O55: START_TARGET's target write and ACK's read leave the System initialized, so the mode write that follows completes. -/
theorem pseudoOperationsExpand : Obligations.PseudoOperationsExpand := by
  intro s n v hi
  refine ⟨execAll_writeMode n 0 hi, ?_, execAll_writeMode n 1 hi, ?_⟩
  · obtain ⟨t, ht, hcounter, hfired⟩ := execAll_writeMode (s := (busWriteTarget n v s).setResult .none) n 8 hi
    refine ⟨t, (execAll_cons_of_completes (.writeTarget n v hi)).trans ht, ?_, hfired⟩
    rw [hcounter, counterOf_setResult, counterOf_busWriteTarget_same, targetOperand]
  · obtain ⟨t, ht, hcounter, hfired⟩ :=
      execAll_writeMode (s := s.setResult (.word (s.counterOf n).mode)) n ((s.counterOf n).mode &&& ackMask) hi
    refine ⟨t, (execAll_cons_of_completes (.readMode n hi)).trans ht, ?_, fun i => ?_, hfired⟩
    · rw [hcounter, counterOf_setResult]
    · rw [hcounter, getLsbD_and_ackMask]

end Sys2Proof.Machine

/-! The host clock's draws and the CycleClock (40_cycleclock.md R100 to R104). -/

namespace Sys2Proof.Machine

/-! A draw. -/

theorem drawHostClock_unlisted {s : State} (h : s.inputs.clockAnswers = []) :
    drawHostClock s = some (freeSample s.clk.lastSample s.inputs.clockDraws,
      s.takeSample (freeSample s.clk.lastSample s.inputs.clockDraws) []) := by
  simp [drawHostClock, h]

/-- An admitted draw is the one made, and consumes the listed answer where there is one (R103). -/
theorem drawHostClock_of_draws {s : State} {v : HostTicks} (h : s.Draws v) :
    drawHostClock s = some (v, s.takeSample v s.inputs.clockAnswers.tail) := by
  rcases h with ⟨rest, hlisted, hle⟩ | ⟨hnone, rfl⟩
  · rw [drawHostClock_listed hlisted hle, hlisted, List.tail_cons]
  · rw [drawHostClock_unlisted hnone, hnone, List.tail_nil]

theorem lastSample_le_of_drawHostClock {s t : State} {v : HostTicks} (h : drawHostClock s = some (v, t)) :
    s.clk.lastSample ≤ t.clk.lastSample := by
  obtain ⟨hle, rest, rfl⟩ := drawHostClock_some h
  exact hle

/-- Settles O33: only a draw writes the last sample, and it takes no earlier one. -/
theorem samplesNeverDecrease : Obligations.SamplesNeverDecrease := by
  intro i s t h
  cases completes_of_exec h with
  | readCounter | readMode | writeMode | readTarget | writeTarget | tick | clkCalibrate => exact BitVec.le_refl _
  | sysInit | sysRun | sysStop | sysDeinit | sysDeinitAbsent => exact BitVec.le_refl _
  | clkRead hd | schedInit _ _ hd | schedStep _ hd => simpa using lastSample_le_of_drawHostClock hd

/-- Settles O31: the draw made is the one admitted, and CLK_READ completes with it. -/
theorem clkReadReturnsTheDraw : Obligations.ClkReadReturnsTheDraw := by
  intro s v h
  have hd := drawHostClock_of_draws h
  exact ⟨lastSample_le_of_drawHostClock hd, exec_of_completes (.clkRead hd)⟩

/-- Settles O32: each of the three operations, past its guards, stops where there is no draw. -/
theorem clockRunningBackIsNotAdmitted : Obligations.ClockRunningBackIsNotAdmitted := by
  intro s v rest hlisted hearlier
  have hd : drawHostClock s = none := drawHostClock_earlier hlisted hearlier
  refine ⟨?_, fun hs => ?_, fun hc hs => ?_⟩
  · simp [exec, execClkRead, hd]
  · simp [exec, execSchedStep, hs, hd]
  · simp [exec, execSchedInit, hc, hs, hd]

/-! CLK_CALIBRATE. -/

/-- Without a host frequency the first calibration fails (R101). -/
theorem exec_clkCalibrate_of_no_frequency {s : State} (hc : s.clk.calibrated = false)
    (hf : s.params.hostTickFrequency = none) : exec .clkCalibrate s = .fault .calibrationFailed := by
  simp [exec, execClkCalibrate, hc, hf]

/-- A second calibration is refused (R102). -/
theorem exec_clkCalibrate_of_calibrated {s : State} (hc : s.clk.calibrated = true) :
    exec .clkCalibrate s = .refused .recalibrationMidRun := by
  simp [exec, execClkCalibrate, hc]

/-- Settles O28: the three outcomes of CLK_CALIBRATE; the quotient by the frequency is exact, so its product with it is 1000. -/
theorem calibrateSetsResolution : Obligations.CalibrateSetsResolution := by
  refine ⟨rfl, fun s f hc hf => ?_, fun s => exec_clkCalibrate_of_no_frequency, fun s => exec_clkCalibrate_of_calibrated⟩
  have hpos : ((f : Nat) : Millis) ≠ 0 := Nat.cast_ne_zero.mpr f.ne_zero
  exact ⟨_, exec_of_completes (.clkCalibrate f hc hf), rfl, rfl, div_mul_cancel₀ 1000 hpos, rfl⟩

/-- Settles O29: the failed calibration leaves the mark `faulted`, and a marked state has no step. -/
theorem failedCalibrationIsFinal : Obligations.FailedCalibrationIsFinal := by
  intro s hc hf
  have hsettle : s.settle (exec .clkCalibrate s) = { s with faulted := true } := by
    rw [exec_clkCalibrate_of_no_frequency hc hf]
    rfl
  rw [hsettle]
  exact ⟨rfl, rfl⟩

end Sys2Proof.Machine

/-! SUPPORT. A Scheduler call in the spec's own numbers (41_scheduler.md R110 to R124): how many iterations the drain loop makes and what
they leave, what render and FPS pacing write and emit, and what the call leaves alone. -/

namespace Sys2Proof.Machine

/-! The drain loop (R114). -/

/-- Consuming `DT_MS` where it is left takes one from the number of whole steps left. -/
theorem floor_div_dtMs_of_le {a : Millis} (h : Config.dtMs ≤ a) :
    ⌊a / Config.dtMs⌋₊ = ⌊(a - Config.dtMs) / Config.dtMs⌋₊ + 1 := by
  have hone : 1 ≤ ⌊a / Config.dtMs⌋₊ := Nat.le_floor (by simpa using (one_le_div dtMs_pos).mpr h)
  rw [sub_div, div_self dtMs_pos.ne', Nat.floor_sub_one]
  omega

/-- The loop makes as many iterations as there are whole steps in the accumulator, up to the cap. -/
theorem drainLoop_steps (cap : Nat) (s : State) :
    (drainLoop cap s).2 = min cap ⌊s.sch.spanAccumulator / Config.dtMs⌋₊ := by
  induction cap generalizing s with
  | zero => simp [drainLoop]
  | succ cap ih =>
    by_cases hd : Config.dtMs ≤ s.sch.spanAccumulator
    · rw [drainLoop_go hd, floor_div_dtMs_of_le hd, Nat.succ_min_succ, ih, drainOnce_sch]
    · have hfloor : ⌊s.sch.spanAccumulator / Config.dtMs⌋₊ = 0 :=
        Nat.floor_eq_zero.mpr ((div_lt_one dtMs_pos).mpr (not_le.mp hd))
      rw [drainLoop_stop hd, hfloor, Nat.min_zero]

/-- Each iteration consumes `DT_MS`. -/
theorem drainOnce_iterate_spanAccumulator (k : Nat) (s : State) :
    (drainOnce^[k] s).sch.spanAccumulator = s.sch.spanAccumulator - k * Config.dtMs := by
  induction k generalizing s with
  | zero => simp
  | succ k ih =>
    rw [Function.iterate_succ_apply, ih, drainOnce_sch]
    push_cast
    ring

/-! Steps 3 to 5 (R113 to R116). -/

/-- The SYS_STEPs of steps 3 to 5 on a clamped span. -/
def State.drainSteps (s : State) (span : Millis) : Nat :=
  min (s.params.maxStepsPerCall : Nat) ⌊(s.sch.spanAccumulator + span) / Config.dtMs⌋₊

theorem schedDrain_steps (span : Millis) (s : State) : (schedDrain (schedAccumulate span s)).2 = s.drainSteps span :=
  drainLoop_steps _ _

theorem schedDrain_state (span : Millis) (s : State) :
    (schedDrain (schedAccumulate span s)).1 = drainOnce^[s.drainSteps span] (schedAccumulate span s) := by
  rw [← schedDrain_steps]
  exact drainLoop_iterate _ _

theorem schedEmulate_spanAccumulator (span : Millis) (s : State) :
    (schedEmulate span s).sch.spanAccumulator =
      min (s.sch.spanAccumulator + span - s.drainSteps span * Config.dtMs) Config.maxSpanMs := by
  change min (schedDrain (schedAccumulate span s)).1.sch.spanAccumulator Config.maxSpanMs = _
  rw [schedDrain_state, drainOnce_iterate_spanAccumulator]
  rfl

theorem schedEmulate_totalCycles (span : Millis) (s : State) :
    (schedEmulate span s).sch.totalCycles = s.sch.totalCycles + BitVec.ofNat 64 (s.drainSteps span) := by
  have hdrain : (schedDrain (schedAccumulate span s)).1.sch = _ := drainLoop_sch _ _
  simp only [schedEmulate, schedCount, schedClampBacklog, State.setSch_sch]
  rw [hdrain, schedDrain_steps]
  simp [schedAccumulate, Config.stepCycles]

/-- Steps 3 to 5 do to the System what that many SYS_STEPs do. -/
theorem schedEmulate_view (span : Millis) {s t : State} (h : t.systemView = s.systemView) :
    (schedEmulate span t).systemView = (sysStep^[t.drainSteps span] s).systemView := by
  calc (schedEmulate span t).systemView
      = (schedDrain (schedAccumulate span t)).1.systemView := rfl
    _ = (drainOnce^[t.drainSteps span] (schedAccumulate span t)).systemView := by rw [schedDrain_state]
    _ = (sysStep^[t.drainSteps span] s).systemView := drainOnce_iterate_view _ h

/-! Steps 6 and 7 (R117 to R119). -/

@[simp] theorem schedRender_fpsTimeSpan (span : Millis) (s : State) :
    (schedRender span s).sch.fpsTimeSpan = s.sch.fpsTimeSpan := by
  rw [schedRender_sch]

@[simp] theorem schedRender_fpsValue (span : Millis) (s : State) :
    (schedRender span s).sch.fpsValue = s.sch.fpsValue := by
  rw [schedRender_sch]

theorem schedRender_fpsCounter (span : Millis) (s : State) :
    (schedRender span s).sch.fpsCounter =
      s.sch.fpsCounter + if Config.renderPeriodMs ≤ s.sch.renderTimeSpan + span then 1 else 0 := by
  unfold schedRender; split <;> rfl

theorem schedRender_trace (span : Millis) (s : State) :
    (schedRender span s).trace =
      s.trace ++ if Config.renderPeriodMs ≤ s.sch.renderTimeSpan + span then [.render] else [] := by
  unfold schedRender; split <;> simp

/-- Render pacing writes the Scheduler and the trace alone. -/
theorem schedRender_frame (span : Millis) (s : State) :
    schedRender span s = { s with sch := (schedRender span s).sch, trace := (schedRender span s).trace } := by
  unfold schedRender; split <;> rfl

/-- A publication takes the count of renders and starts the next one at 0 (R118). -/
theorem schedFps_figures (span : Millis) (s : State) :
    (schedFps span s).sch.fpsCounter =
        (if Config.fpsWindowMs ≤ s.sch.fpsTimeSpan + span then 0 else s.sch.fpsCounter) ∧
      (schedFps span s).sch.fpsValue =
        (if Config.fpsWindowMs ≤ s.sch.fpsTimeSpan + span then s.sch.fpsCounter else s.sch.fpsValue) := by
  unfold schedFps; split <;> exact ⟨rfl, rfl⟩

theorem schedFps_trace (span : Millis) (s : State) :
    (schedFps span s).trace =
      s.trace ++
        if Config.fpsWindowMs ≤ s.sch.fpsTimeSpan + span then [.status (statusText s.sch.fpsCounter)] else [] := by
  unfold schedFps; split <;> simp

/-- FPS pacing writes the Scheduler and the trace alone. -/
theorem schedFps_frame (span : Millis) (s : State) :
    schedFps span s = { s with sch := (schedFps span s).sch, trace := (schedFps span s).trace } := by
  unfold schedFps; split <;> rfl

/-- Pacing writes the Scheduler and the trace alone. -/
theorem schedPace_frame (span : Millis) (s : State) :
    schedPace span s = { s with sch := (schedPace span s).sch, trace := (schedPace span s).trace } := by
  unfold schedPace
  rw [schedFps_frame, schedRender_frame]

/-- Of the Scheduler, pacing keeps the accumulator of the drain loop and the cycle total. -/
theorem schedPace_backlog (span : Millis) (s : State) :
    (schedPace span s).sch.spanAccumulator = s.sch.spanAccumulator ∧
      (schedPace span s).sch.totalCycles = s.sch.totalCycles := by
  unfold schedPace
  rw [schedFps_sch, schedRender_sch]
  exact ⟨rfl, rfl⟩

/-! The whole call, in the spec's own numbers: the span, the thresholds and `DT_MS`. -/

/-- The state steps 1 to 5 of a call leave to the pacing. -/
def State.drained (s : State) (v : HostTicks) : State :=
  schedEmulate (s.spanOfCall v) (schedSample v s)

theorem schedCall_eq_schedPace (v : HostTicks) (s : State) : schedCall v s = schedPace (s.spanOfCall v) (s.drained v) :=
  rfl

theorem dtMs_eq : Config.dtMs = 5 / 169344 := by
  norm_num [Config.dtMs, Config.cpuClockHz]

theorem drainSteps_schedSample (s : State) (v : HostTicks) :
    (schedSample v s).drainSteps (s.spanOfCall v) = s.stepsOfCall v := by
  simp only [State.drainSteps, State.stepsOfCall, State.backlogOfCall, dtMs_eq]
  rfl

theorem drained_spanAccumulator (s : State) (v : HostTicks) :
    (s.drained v).sch.spanAccumulator = min (s.backlogOfCall v - s.stepsOfCall v * (5 / 169344)) 250 := by
  rw [State.drained, schedEmulate_spanAccumulator, drainSteps_schedSample, dtMs_eq]
  rfl

theorem drained_totalCycles (s : State) (v : HostTicks) :
    (s.drained v).sch.totalCycles = s.sch.totalCycles + BitVec.ofNat 64 (s.stepsOfCall v) := by
  rw [State.drained, schedEmulate_totalCycles, drainSteps_schedSample]
  rfl

theorem drained_view {s t : State} (v : HostTicks) (h : t.systemView = s.systemView) :
    (t.drained v).systemView = (sysStep^[t.stepsOfCall v] s).systemView := by
  rw [← drainSteps_schedSample]
  exact schedEmulate_view _ h

/-- Steps 1 to 5 leave what the pacing reads. -/
theorem drained_pacing (s : State) (v : HostTicks) :
    (s.drained v).sch.renderTimeSpan = s.sch.renderTimeSpan ∧ (s.drained v).sch.fpsTimeSpan = s.sch.fpsTimeSpan ∧
      (s.drained v).sch.fpsCounter = s.sch.fpsCounter ∧ (s.drained v).sch.fpsValue = s.sch.fpsValue := by
  rw [State.drained, schedEmulate_sch]
  exact ⟨rfl, rfl, rfl, rfl⟩

theorem rendersInCall_iff (s : State) (v : HostTicks) :
    s.rendersInCall v = true ↔ Config.renderPeriodMs ≤ s.sch.renderTimeSpan + s.spanOfCall v :=
  decide_eq_true_iff

theorem publishesInCall_iff (s : State) (v : HostTicks) :
    s.publishesInCall v = true ↔ Config.fpsWindowMs ≤ s.sch.fpsTimeSpan + s.spanOfCall v :=
  decide_eq_true_iff

/-- FPS pacing finds this call's render counted (R117, R118). -/
theorem schedRender_drained_fpsCounter (s : State) (v : HostTicks) :
    (schedRender (s.spanOfCall v) (s.drained v)).sch.fpsCounter = s.rendersCounted v := by
  obtain ⟨hrender, -, hcounter, -⟩ := drained_pacing s v
  rw [schedRender_fpsCounter, hrender, hcounter]
  simp only [State.rendersCounted, rendersInCall_iff]

theorem schedCall_backlog (s : State) (v : HostTicks) :
    (schedCall v s).sch.spanAccumulator = min (s.backlogOfCall v - s.stepsOfCall v * (5 / 169344)) 250 ∧
      (schedCall v s).sch.totalCycles = s.sch.totalCycles + BitVec.ofNat 64 (s.stepsOfCall v) := by
  obtain ⟨hspan, htotal⟩ := schedPace_backlog (s.spanOfCall v) (s.drained v)
  exact ⟨hspan.trans (drained_spanAccumulator s v), htotal.trans (drained_totalCycles s v)⟩

theorem schedCall_pacing (s : State) (v : HostTicks) :
    (schedCall v s).sch.renderTimeSpan = (if s.rendersInCall v then 0 else s.sch.renderTimeSpan + s.spanOfCall v) ∧
      (schedCall v s).sch.fpsTimeSpan = (if s.publishesInCall v then 0 else s.sch.fpsTimeSpan + s.spanOfCall v) ∧
      (schedCall v s).sch.fpsCounter = (if s.publishesInCall v then 0 else s.rendersCounted v) ∧
      (schedCall v s).sch.fpsValue = (if s.publishesInCall v then s.rendersCounted v else s.sch.fpsValue) := by
  obtain ⟨-, hfps, -, hvalue⟩ := drained_pacing s v
  obtain ⟨hcount, hpublished⟩ := schedFps_figures (s.spanOfCall v) (schedRender (s.spanOfCall v) (s.drained v))
  simp only [schedRender_fpsTimeSpan, schedRender_fpsValue, schedRender_drained_fpsCounter, hfps, hvalue] at hcount hpublished
  simp only [rendersInCall_iff, publishesInCall_iff]
  refine ⟨?_, ?_, hcount, hpublished⟩
  · rw [schedCall_sch]
    rfl
  · rw [schedCall_sch]
    rfl

theorem schedCall_trace (s : State) (v : HostTicks) :
    (schedCall v s).trace = (s.drained v).trace ++ s.pacingEvents v := by
  obtain ⟨hrender, hfps, -, -⟩ := drained_pacing s v
  rw [schedCall_eq_schedPace, schedPace, schedFps_trace, schedRender_trace, schedRender_fpsTimeSpan,
    schedRender_drained_fpsCounter, hrender, hfps, List.append_assoc]
  simp only [State.pacingEvents, rendersInCall_iff, publishesInCall_iff, statusText]

/-- Pacing leaves the System, its adapter and its CPU as the drain loop left them. -/
theorem schedCall_system (s : State) (v : HostTicks) :
    (schedCall v s).rc = (s.drained v).rc ∧ (schedCall v s).irq = (s.drained v).irq ∧
      (schedCall v s).cpuReads = (s.drained v).cpuReads ∧ (schedCall v s).inputs = (s.drained v).inputs := by
  rw [schedCall_eq_schedPace, schedPace_frame]
  exact ⟨rfl, rfl, rfl, rfl⟩

/-! What a call leaves alone. -/

/-- The inputs that answer a draw. -/
def State.clockInputs (s : State) : List HostTicks × Nat :=
  (s.inputs.clockAnswers, s.inputs.clockDraws)

theorem clockInputs_sysStep (s : State) : (sysStep s).clockInputs = s.clockInputs := by
  rw [sysStep_frame]
  rfl

theorem clockInputs_schedEmulate (span : Millis) (s : State) : (schedEmulate span s).clockInputs = s.clockInputs :=
  drainLoop_induction (P := fun t => t.clockInputs = s.clockInputs) (fun t _ ht => (clockInputs_sysStep t).trans ht) _
    (schedAccumulate span s) rfl

theorem clockInputs_schedCall (s : State) (v : HostTicks) : (schedCall v s).clockInputs = s.clockInputs := by
  rw [schedCall_eq_schedPace, schedPace_frame]
  exact clockInputs_schedEmulate _ (schedSample v s)

/-- A call writes the registers, the adapter, the Scheduler, the trace, the CPU's reads and its steps still to come, and nothing else
of the state but the result, which SCHED_STEP overwrites. -/
theorem schedCall_frame (s : State) (v : HostTicks) :
    schedCall v s =
      { s with
        rc := (schedCall v s).rc, irq := (schedCall v s).irq, sch := (schedCall v s).sch, trace := (schedCall v s).trace
        cpuReads := (schedCall v s).cpuReads, result := (schedCall v s).result
        inputs := { s.inputs with cpuSteps := (schedCall v s).inputs.cpuSteps } } := by
  have hclk := schedCall_clk v s
  have hsys := schedCall_sys v s
  obtain ⟨hparams, hrequests, hfaulted, hrefused⟩ := hostPart_eq_iff.mp (hostPart_schedCall v s)
  obtain ⟨hanswers, hdraws⟩ := Prod.mk.inj (clockInputs_schedCall s v)
  dsimp only
  rw [← hclk, ← hsys, ← hparams, ← hfaulted, ← hrefused, ← hrequests, ← hanswers, ← hdraws]

end Sys2Proof.Machine

/-! The statements about the Scheduler. -/

namespace Sys2Proof.Machine

/-- The state in which a call finds the machine: an admitted draw of `v` made. -/
def State.drawn (s : State) (v : HostTicks) : State :=
  s.takeSample v s.inputs.clockAnswers.tail

/-- A SCHED_STEP that completes on an admitted draw is one call on that draw (R110). -/
theorem schedStep_next {s t : State} {v : HostTicks} (hv : s.Draws v) (h : exec .schedStep s = .next t) :
    t = (schedCall v (s.drawn v)).setResult .none := by
  cases completes_of_exec h with
  | schedStep _ hd =>
    cases (drawHostClock_of_draws hv).symm.trans hd
    rfl

theorem started_of_schedStep {s t : State} (h : exec .schedStep s = .next t) : s.sch.started = true := by
  cases completes_of_exec h with
  | schedStep hs _ => exact hs

/-- Settles O34: the draw is the admitted one, and the guards are those of SCHED_INIT in their order. -/
theorem schedInitStartsTheScheduler : Obligations.SchedInitStartsTheScheduler := by
  refine ⟨fun s v hc hs hv => ?_, fun s hc => ?_, fun s hc hs => ?_⟩
  · exact ⟨_, exec_of_completes (.schedInit hc hs (drawHostClock_of_draws hv)), rfl, rfl, rfl, rfl, rfl, rfl, rfl, rfl,
      rfl, rfl⟩
  · simp [exec, execSchedInit, hc]
  · simp [exec, execSchedInit, hc, hs]

/-- Settles O35: the draw is the admitted one, and a call has the frame of its stages. -/
theorem schedStepSamplesAndCompletes : Obligations.SchedStepSamplesAndCompletes := by
  refine ⟨fun s v hs hv => ⟨_, exec_of_completes (.schedStep hs (drawHostClock_of_draws hv)), ?_, ?_⟩, fun s hs => ?_⟩
  · exact congrArg (State.setResult · .none) (schedCall_frame (s.drawn v) v)
  · rw [State.setResult_sch, schedCall_sch]
    exact ⟨hs, rfl, rfl⟩
  · simp [exec, execSchedStep, hs]

/-- Settles O36: the draw changes nothing the backlog is made of. -/
theorem schedStepDrainsTheBacklog : Obligations.SchedStepDrainsTheBacklog := by
  intro s t v _ hv h
  rw [schedStep_next hv h]
  exact schedCall_backlog (s.drawn v) v

/-- Settles O37: the backlog holds at most 8,467,200 whole steps, so the cap ends no loop, and what is left is below a step. -/
theorem largeCapDrainsFully : Obligations.LargeCapDrainsFully := by
  intro s t v hs hv h hcap hentry
  obtain ⟨hspan, -⟩ := schedStepDrainsTheBacklog s t v hs hv h
  have hbacklog : s.backlogOfCall v < 5 / 169344 + 250 := add_lt_add_of_lt_of_le hentry (min_le_right _ _)
  have hsteps : s.stepsOfCall v = ⌊s.backlogOfCall v / (5 / 169344)⌋₊ := by
    have hfloor : ⌊s.backlogOfCall v / (5 / 169344)⌋₊ < 8467201 := by
      rw [Nat.floor_lt' (by norm_num)]
      norm_num
      linarith
    exact min_eq_right (by omega)
  have hleft : s.backlogOfCall v - ⌊s.backlogOfCall v / (5 / 169344)⌋₊ * (5 / 169344) < 5 / 169344 := by
    have hfloor := Nat.lt_floor_add_one (s.backlogOfCall v / (5 / 169344))
    rw [div_lt_iff₀ (by norm_num)] at hfloor
    linarith
  have hclamp : t.sch.spanAccumulator = s.backlogOfCall v - ⌊s.backlogOfCall v / (5 / 169344)⌋₊ * (5 / 169344) := by
    rw [hspan, hsteps]
    exact min_eq_left (by linarith)
  exact ⟨hclamp ▸ hleft, hclamp⟩

/-- Settles O38: the loop's iterations are SYS_STEPs to the System, the draw changes nothing the System has, and pacing only appends. -/
theorem schedStepAdvancesTheSystem : Obligations.SchedStepAdvancesTheSystem := by
  intro s t v _ hv h
  rw [schedStep_next hv h]
  have hview : ((s.drawn v).drained v).systemView = (sysStep^[s.stepsOfCall v] s).systemView :=
    drained_view (s := s) (t := s.drawn v) v rfl
  obtain ⟨hrc, hirq, htrace, hreads, hcpu, -⟩ := systemView_iff.mp hview
  obtain ⟨hrc', hirq', hreads', hinputs'⟩ := schedCall_system (s.drawn v) v
  refine ⟨hrc'.trans hrc, hirq'.trans hirq, hreads'.trans hreads, ?_, ?_⟩
  · exact (congrArg Inputs.cpuSteps hinputs').trans hcpu
  · rw [State.setResult_trace, schedCall_trace, htrace]
    rfl

/-- Settles O39: the draw changes nothing the pacing reads. -/
theorem schedStepPaces : Obligations.SchedStepPaces := by
  intro s t v _ hv h
  rw [schedStep_next hv h]
  exact schedCall_pacing (s.drawn v) v

/-- Settles O40: the figures pacing leaves are given by the span and the pacing elements. -/
theorem pacingIgnoresTheSteps : Obligations.PacingIgnoresTheSteps := by
  intro s s' t t' v hv hv' hclk hprevious hrender hfps hcounter hvalue h h'
  obtain ⟨hr, hf, hc, hp⟩ := schedStepPaces s t v (started_of_schedStep h) hv h
  obtain ⟨hr', hf', hc', hp'⟩ := schedStepPaces s' t' v (started_of_schedStep h') hv' h'
  have hspan : s'.spanOfCall v = s.spanOfCall v := by simp only [State.spanOfCall, hclk, hprevious]
  have hrenders : s'.rendersInCall v = s.rendersInCall v := by simp only [State.rendersInCall, hrender, hspan]
  have hpublishes : s'.publishesInCall v = s.publishesInCall v := by simp only [State.publishesInCall, hfps, hspan]
  have hcounted : s'.rendersCounted v = s.rendersCounted v := by simp only [State.rendersCounted, hcounter, hrenders]
  refine ⟨?_, ?_, ?_, ?_⟩
  · rw [hr', hr, hrenders, hrender, hspan]
  · rw [hf', hf, hpublishes, hfps, hspan]
  · rw [hc', hc, hpublishes, hcounted]
  · rw [hp', hp, hpublishes, hcounted, hvalue]

/-- Settles O41: a SYS_STEP of such a System changes nothing, nor do many. -/
theorem stoppedSystemStillDrains : Obligations.StoppedSystemStillDrains := by
  intro s t v hs hv h hstopped
  have hidle : stepEffective s = false := by
    rcases hstopped with hi | hr
    · simp [stepEffective, hi]
    · simp [stepEffective, hr]
  have hsteps : sysStep^[s.stepsOfCall v] s = s := Function.iterate_fixed (sysStep_idle hidle) _
  have hsystem := schedStepAdvancesTheSystem s t v hs hv h
  obtain ⟨-, htotal⟩ := schedStepDrainsTheBacklog s t v hs hv h
  rw [hsteps] at hsystem
  obtain ⟨hrc, hirq, hreads, hcpu, htrace⟩ := hsystem
  exact ⟨hrc, hirq, hreads, hcpu, htrace, htotal⟩

end Sys2Proof.Machine

/-! A counter operation is refused while the System is not initialized, and the counter write always (42_rootcounter.md R151 to
R153). -/

namespace Sys2Proof.Machine

/-- Each of the six operations of a counter is a next state under the guard of R153. -/
theorem exec_counterOperation {i : Instr} {n : CounterId} (hn : i.counterOperation = some n) (s : State) :
    ∃ t, exec i s = requireCounter s (.next t) := by
  cases i with
  | readCounter k | readMode k | readTarget k => exact ⟨_, rfl⟩
  | writeMode k value | writeTarget k value | tick k value => exact ⟨_, rfl⟩
  | writeCounter k operand => cases hn
  | clkCalibrate | clkRead | schedInit | schedStep => cases hn
  | sysInit | sysRun | sysStop | sysStep | sysDeinit => cases hn

/-- Settles O20: the guard refuses what it stands before. -/
theorem counterOperationsNeedTheSystem : Obligations.CounterOperationsNeedTheSystem := by
  intro i n s hn hi
  obtain ⟨t, ht⟩ := exec_counterOperation hn s
  exact ht.trans (requireCounter_absent hi _)

/-- Settles O21: the guard lets a next state through or refuses, and the counter write is refused. -/
theorem counterOperationsNeverFail : Obligations.CounterOperationsNeverFail := by
  refine ⟨fun i n s hn hi => ?_, fun i n operand s f h => ?_⟩
  · obtain ⟨t, ht⟩ := exec_counterOperation hn s
    exact ⟨t, ht.trans (requireCounter_initialized hi _)⟩
  · rcases h with hn | rfl
    · obtain ⟨t, ht⟩ := exec_counterOperation hn s
      rw [ht, requireCounter]
      split <;> simp
    · simp [exec_of_not_legal (i := .writeCounter n operand) rfl s]

/-- A request with the code of a counter write is that write, whatever its operand and access width. -/
theorem decode_counterWrite (n : CounterId) (operand : Option Word) (width : AccessWidth) :
    decode { code := BitVec.ofNat 8 (0x40 + n.index), operand := operand, width := width } = .ok (.writeCounter n operand) := by
  have hcode : BitVec.ofNat 8 (0x40 + n.index) = encodeCode (.writeCounter n) := by cases n <;> rfl
  rw [decode_ok_iff, hcode]
  exact ⟨decodeCode_encodeCode _, rfl, rfl⟩

/-- Settles O22: the decoder takes the code alone, and the operation it selects is refused in every state. -/
theorem counterWriteIsRefused : Obligations.CounterWriteIsRefused :=
  ⟨fun s _ _ => exec_of_not_legal rfl s, fun _ n operand width _ hs hq =>
    (step_of_decode hs hq (decode_counterWrite n operand width)).trans (exec_of_not_legal rfl _)⟩

end Sys2Proof.Machine

/-! The register accesses one by one (42_rootcounter.md R140 to R144). -/

namespace Sys2Proof.Machine

/-- Settles O13: a read that completes answers its register. -/
theorem readsReturnRegisters : Obligations.ReadsReturnRegisters := by
  refine ⟨fun n => ?_, fun s n hi => ?_, fun s n hi => ?_⟩
  · cases n <;> decide
  · exact ⟨exec_of_completes (.readCounter n hi), exec_of_completes (.readMode n hi), exec_of_completes (.readTarget n hi)⟩
  · exact ⟨counterOperationsNeedTheSystem _ n s rfl hi, counterOperationsNeedTheSystem _ n s rfl hi,
      counterOperationsNeedTheSystem _ n s rfl hi⟩

/-- Settles O14: WRITE_MODE completes with the bus write of the mode word, which reaches `rc[n].mode` and the latch of `n`. -/
theorem writeModeReplacesTheWord : Obligations.WriteModeReplacesTheWord := by
  intro s n value
  refine ⟨by cases n <;> rfl, fun hi => ?_, counterOperationsNeedTheSystem _ n s rfl⟩
  exact ⟨_, exec_of_completes (.writeMode n value hi), rfl, counterOf_busWriteMode_same n value s,
    fun k hk => counterOf_busWriteMode_ne value s hk, oneshotFired_setOneshotFired_same _ n false,
    fun k hk => oneshotFired_setOneshotFired_ne _ false hk, rfl⟩

/-- Settles O15: WRITE_TARGET completes with the bus write of the masked operand. -/
theorem writeTargetMasks : Obligations.WriteTargetMasks := by
  intro s n value
  refine ⟨by cases n <;> rfl, fun hi => ?_, counterOperationsNeedTheSystem _ n s rfl⟩
  exact ⟨_, exec_of_completes (.writeTarget n value hi), rfl, counterOf_busWriteTarget_same n value s,
    fun k hk => counterOf_busWriteTarget_ne value s hk⟩

end Sys2Proof.Machine

/-! SUPPORT. TICK as the host issues it: its next state by name, and what the registers it leaves depend on. -/

namespace Sys2Proof.Machine

/-- The next state of TICK of counter `n` (42_rootcounter.md R145): the counter ticked and the wrap result given back. -/
def ticked (n : CounterId) (cycles : Word) (s : State) : State :=
  (tickCounter n cycles s).setResult (.wrapped (tickWraps n cycles s))

theorem exec_tick {s : State} (n : CounterId) (cycles : Word) (hi : s.sys.initialized = true) :
    exec (.tick n cycles) s = .next (ticked n cycles s) :=
  exec_of_completes (.tick n cycles hi)

theorem eq_ticked_of_exec {n : CounterId} {cycles : Word} {s t : State} (h : exec (.tick n cycles) s = .next t) :
    t = ticked n cycles s := by
  cases completes_of_exec h
  rfl

@[simp] theorem ticked_sys (n : CounterId) (cycles : Word) (s : State) : (ticked n cycles s).sys = s.sys := rfl

@[simp] theorem ticked_result (n : CounterId) (cycles : Word) (s : State) :
    (ticked n cycles s).result = .wrapped (tickRegisters (s.counterOf n) cycles).2 := rfl

@[simp] theorem counterOf_ticked_same (n : CounterId) (cycles : Word) (s : State) :
    (ticked n cycles s).counterOf n = (tickRegisters (s.counterOf n) cycles).1 :=
  counterOf_tickCounter_same s n cycles

@[simp] theorem counterOf_ticked_ne {n k : CounterId} (cycles : Word) (s : State) (h : k ≠ n) :
    (ticked n cycles s).counterOf k = s.counterOf k :=
  counterOf_tickCounter_ne s cycles h

@[simp] theorem setCounterOf_counterOf (s : State) (n : CounterId) : s.setCounterOf n (s.counterOf n) = s := by
  simp [State.setCounterOf, counterOf_eq]

/-- TICK writes the counter register only (R149). -/
theorem tickRegisters_frame (c : RootCounter) (cycles : Word) :
    (tickRegisters c cycles).1 = { c with counter := (tickRegisters c cycles).1.counter } := by
  rcases tickRegisters_cases c cycles with ⟨-, h⟩ | ⟨-, -, h⟩ | ⟨-, -, h⟩ <;> rw [h]

theorem tickRegisters_of_stopped {c : RootCounter} (h : modeEn c.mode = true) (cycles : Word) :
    tickRegisters c cycles = (c, false) := by
  simp [tickRegisters, h]

theorem tickRegisters_of_ge {c : RootCounter} {cycles : Word} (he : modeEn c.mode = false)
    (hl : wrapLimit c.mode c.target ≤ tickSum c.counter cycles) : tickRegisters c cycles = ({ c with counter := 0 }, true) := by
  simp [tickRegisters, he, hl]

theorem tickRegisters_of_lt {c : RootCounter} {cycles : Word} (he : modeEn c.mode = false)
    (hl : tickSum c.counter cycles < wrapLimit c.mode c.target) :
    tickRegisters c cycles = ({ c with counter := BitVec.ofNat 32 (tickSum c.counter cycles) }, false) := by
  simp [tickRegisters, he, Nat.not_le.mpr hl]

/-- The registers of two counters that agree in counter, target, `en` and `resetmode` tick alike (R150). -/
theorem tickRegisters_congr {c c' : RootCounter} (hcounter : c'.counter = c.counter) (htarget : c'.target = c.target)
    (hen : modeEn c'.mode = modeEn c.mode) (hreset : modeResetmode c'.mode = modeResetmode c.mode) (cycles : Word) :
    (tickRegisters c' cycles).1.counter = (tickRegisters c cycles).1.counter ∧
      (tickRegisters c' cycles).2 = (tickRegisters c cycles).2 := by
  have hlimit : wrapLimit c'.mode c'.target = wrapLimit c.mode c.target := by simp only [wrapLimit, hreset, htarget]
  rcases tickRegisters_cases c cycles with ⟨he, h⟩ | ⟨he, hl, h⟩ | ⟨he, hl, h⟩ <;> rw [h]
  · rw [tickRegisters_of_stopped (hen.trans he)]
    exact ⟨hcounter, rfl⟩
  · rw [tickRegisters_of_ge (hen.trans he) (by rwa [hlimit, hcounter])]
    exact ⟨rfl, rfl⟩
  · rw [tickRegisters_of_lt (hen.trans he) (by rwa [hlimit, hcounter]), hcounter]
    exact ⟨rfl, rfl⟩

end Sys2Proof.Machine

/-! The statements about TICK. -/

namespace Sys2Proof.Machine

/-- Settles O23: the three cases of TICK are the branches of the statement; below the limit the sum is stored without loss. -/
theorem tickCountsOrWraps : Obligations.TickCountsOrWraps := by
  intro s n cycles
  refine ⟨by cases n <;> rfl, fun hi => ?_, counterOperationsNeedTheSystem _ n s rfl⟩
  refine ⟨_, exec_tick n cycles hi, rfl, fun k hk => counterOf_ticked_ne cycles s hk, ?_, ?_⟩
  · rw [counterOf_ticked_same]
    exact tickRegisters_frame _ cycles
  · rw [counterOf_ticked_same, ticked_result]
    change if modeEn (s.counterOf n).mode then _
      else if wrapLimit (s.counterOf n).mode (s.counterOf n).target ≤ tickSum (s.counterOf n).counter cycles then _ else _
    rcases tickRegisters_cases (s.counterOf n) cycles with ⟨he, h⟩ | ⟨he, hl, h⟩ | ⟨he, hl, h⟩ <;> rw [h]
    · rw [if_pos he]
      exact ⟨rfl, rfl⟩
    · rw [if_neg (ne_true_of_eq_false he), if_pos hl]
      exact ⟨rfl, rfl⟩
    · rw [if_neg (ne_true_of_eq_false he), if_neg (Nat.not_le.mpr hl)]
      exact ⟨counted_toNat hl, rfl⟩

/-- Settles O24: a stopped counter's registers are written back as they are. -/
theorem tickOfStoppedCounter : Obligations.TickOfStoppedCounter := by
  intro s n cycles hi hen
  have hregisters : tickRegisters (s.counterOf n) cycles = (s.counterOf n, false) := tickRegisters_of_stopped hen cycles
  have hstate : tickCounter n cycles s = s := by rw [tickCounter, hregisters, setCounterOf_counterOf]
  rw [exec_tick n cycles hi, ticked, hstate, tickWraps, hregisters]
  rfl

/-- Settles O25: the registers of the counter and its wrap result are all that TICK gives back. -/
theorem tickReadsOnlyEnAndResetmode : Obligations.TickReadsOnlyEnAndResetmode := by
  intro s s' t t' n cycles hcounter htarget hen hreset h h'
  obtain ⟨hcounted, hwrapped⟩ := tickRegisters_congr hcounter htarget hen hreset cycles
  rw [eq_ticked_of_exec h, eq_ticked_of_exec h']
  simp only [ticked_result, counterOf_ticked_same, hcounted, hwrapped, and_self]

/-! TICK after TICK. -/

theorem execAll_replicate_tick (n : CounterId) (cycles : Word) (k : Nat) {s : State} (hi : s.sys.initialized = true) :
    execAll (List.replicate k (.tick n cycles)) s = .next ((ticked n cycles)^[k] s) := by
  induction k generalizing s with
  | zero => rfl
  | succ k ih =>
    rw [List.replicate_succ, execAll_cons_of_completes (.tick n cycles hi), Function.iterate_succ_apply]
    exact ih (s := ticked n cycles s) hi

/-- The registers of a counter with the count `k`. -/
def RootCounter.atCount (c : RootCounter) (k : Nat) : RootCounter :=
  { c with counter := BitVec.ofNat 32 k }

/-- A count of `k` below the limit and one cycle add up to `k + 1`: nothing is lost in storing the count. -/
theorem tickSum_atCount_one {c : RootCounter} {k : Nat} (hk : k < wrapLimit c.mode c.target) :
    tickSum (c.atCount k).counter 1 = k + 1 := by
  have hword : k < 2 ^ 32 := hk.trans (wrapLimit_lt_word c.mode c.target)
  change (BitVec.ofNat 32 k).toNat + 1 = k + 1
  rw [BitVec.toNat_ofNat, Nat.mod_eq_of_lt hword]

theorem tickRegisters_atCount_of_lt {c : RootCounter} {k : Nat} (he : modeEn c.mode = false)
    (hk : k + 1 < wrapLimit c.mode c.target) : tickRegisters (c.atCount k) 1 = (c.atCount (k + 1), false) := by
  have hsum := tickSum_atCount_one (k.lt_succ_self.trans hk)
  rw [tickRegisters_of_lt (c := c.atCount k) he (hsum.trans_lt hk), hsum]
  rfl

theorem tickRegisters_atCount_of_eq {c : RootCounter} {k : Nat} (he : modeEn c.mode = false)
    (hk : k + 1 = wrapLimit c.mode c.target) : tickRegisters (c.atCount k) 1 = (c.atCount 0, true) := by
  have hsum := tickSum_atCount_one (k.lt_succ_self.trans_eq hk)
  exact tickRegisters_of_ge he (hk.symm.trans hsum.symm).le

/-- Below the limit a running counter that starts at 0 holds the number of its TICKs of one cycle. -/
theorem counterOf_ticked_one_iterate {s : State} {n : CounterId} (he : modeEn (s.counterOf n).mode = false)
    (h0 : (s.counterOf n).counter = 0) (k : Nat) (hk : k < wrapLimit (s.counterOf n).mode (s.counterOf n).target) :
    ((ticked n 1)^[k] s).counterOf n = (s.counterOf n).atCount k := by
  induction k with
  | zero =>
    change s.counterOf n = { s.counterOf n with counter := 0 }
    rw [← h0]
  | succ k ih =>
    rw [Function.iterate_succ_apply', counterOf_ticked_same, ih (by omega), tickRegisters_atCount_of_lt he hk]

/-- Settles O26: the TICK that finds the count at `k` leaves `k + 1` below the limit, and wraps where `k + 1` is the limit. -/
theorem tickPeriodIsTheLimit : Obligations.TickPeriodIsTheLimit := by
  intro s n L hi he h0 hL hpos
  have hlimit : L = wrapLimit (s.counterOf n).mode (s.counterOf n).target := hL
  have hword := wrapLimit_lt_word (s.counterOf n).mode (s.counterOf n).target
  refine ⟨fun k hk hkL => ⟨_, execAll_replicate_tick n 1 k hi, ?_⟩, _, execAll_replicate_tick n 1 L hi, ?_⟩
  · obtain ⟨j, rfl⟩ := Nat.exists_eq_add_of_le' hk
    have hcount := counterOf_ticked_one_iterate he h0 j (by omega)
    rw [Function.iterate_succ_apply', counterOf_ticked_same, ticked_result, hcount,
      tickRegisters_atCount_of_lt he (hlimit ▸ hkL)]
    exact ⟨(BitVec.toNat_ofNat _ _).trans (Nat.mod_eq_of_lt (by omega)), rfl⟩
  · obtain ⟨j, rfl⟩ := Nat.exists_eq_add_of_le' hpos
    have hcount := counterOf_ticked_one_iterate he h0 j (by omega)
    rw [Function.iterate_succ_apply', counterOf_ticked_same, ticked_result, hcount, tickRegisters_atCount_of_eq he hlimit]
    exact ⟨rfl, rfl⟩

end Sys2Proof.Machine

/-! SUPPORT. What SYS_STEP leaves of one counter: the three counters' parts do not meet, so each is its own part applied to the state the
CPU's step left (43_system.md R173; 60_exceptions.md R215). -/

namespace Sys2Proof.Machine

/-- What belongs to counter `n`: its registers, its one-shot latch and its line level. -/
def State.counterView (s : State) (n : CounterId) : RootCounter × Bool × Bool :=
  (s.counterOf n, s.oneshotFired n, s.lineLevel n)

theorem counterView_eq_iff {s t : State} {n : CounterId} : t.counterView n = s.counterView n ↔
    t.counterOf n = s.counterOf n ∧ t.oneshotFired n = s.oneshotFired n ∧ t.lineLevel n = s.lineLevel n := by
  simp [State.counterView]

theorem counterView_tickWithAdapter_ne (n : CounterId) {k : CounterId} (s : State) (h : k ≠ n) :
    (tickWithAdapter n s).counterView k = s.counterView k :=
  counterView_eq_iff.mpr
    ⟨counterOf_tickWithAdapter_ne n s h, oneshotFired_tickWithAdapter_ne n s h, lineLevel_tickWithAdapter_ne n s h⟩

/-- What one counter's part of SYS_STEP makes of the counter's view depends on that view alone. -/
theorem counterView_tickWithAdapter_congr {n : CounterId} {s t : State} (h : t.counterView n = s.counterView n) :
    (tickWithAdapter n t).counterView n = (tickWithAdapter n s).counterView n := by
  obtain ⟨hcounter, hfired, hline⟩ := counterView_eq_iff.mp h
  have hwraps : tickWraps n Config.stepCycles t = tickWraps n Config.stepCycles s := by simp only [tickWraps, hcounter]
  refine counterView_eq_iff.mpr ⟨?_, ?_, ?_⟩
  · simp only [counterOf_tickWithAdapter_same, hwraps, hcounter, hfired]
  · simp only [oneshotFired_tickWithAdapter_same, hwraps, hcounter, hfired]
  · simp only [lineLevel_tickWithAdapter, hwraps, hcounter, hfired, hline]

theorem stepEffective_of_running {s : State} (hi : s.sys.initialized = true) (hr : s.sys.running = true) :
    stepEffective s = true := by
  simp [stepEffective, hi, hr]

theorem sysStep_effective {s : State} (h : stepEffective s = true) :
    sysStep s = tickWithAdapter .c2 (tickWithAdapter .c1 (tickWithAdapter .c0 (cpuStep s))) := by
  simp [sysStep, h]

/-- An effective SYS_STEP does to each counter that counter's part alone. -/
theorem counterView_sysStep {s : State} (h : stepEffective s = true) (n : CounterId) :
    (sysStep s).counterView n = (tickWithAdapter n (cpuStep s)).counterView n := by
  rw [sysStep_effective h]
  cases n with
  | c0 => rw [counterView_tickWithAdapter_ne .c2 _ (by decide), counterView_tickWithAdapter_ne .c1 _ (by decide)]
  | c1 =>
    rw [counterView_tickWithAdapter_ne .c2 _ (by decide)]
    exact counterView_tickWithAdapter_congr (counterView_tickWithAdapter_ne .c0 _ (by decide))
  | c2 =>
    refine counterView_tickWithAdapter_congr ?_
    rw [counterView_tickWithAdapter_ne .c1 _ (by decide), counterView_tickWithAdapter_ne .c0 _ (by decide)]

/-- What an effective SYS_STEP leaves of a counter's registers: TICK and the adapter's status bits, of what the CPU's step left. -/
theorem counterOf_sysStep {s : State} (h : stepEffective s = true) (n : CounterId) :
    (sysStep s).counterOf n =
      { (tickRegisters ((cpuStep s).counterOf n) Config.stepCycles).1 with
        mode :=
          if tickWraps n Config.stepCycles (cpuStep s) then
            adapterMode ((cpuStep s).counterOf n).mode ((cpuStep s).oneshotFired n)
          else ((cpuStep s).counterOf n).mode } := by
  obtain ⟨hcounter, -, -⟩ := counterView_eq_iff.mp (counterView_sysStep h n)
  rw [hcounter, counterOf_tickWithAdapter_same]

/-- The counters' parts of an effective SYS_STEP leave the inputs and the CPU's reads as the CPU's step left them. -/
theorem sysStep_inputs_cpuReads {s : State} (h : stepEffective s = true) :
    (sysStep s).inputs = (cpuStep s).inputs ∧ (sysStep s).cpuReads = (cpuStep s).cpuReads := by
  simp [sysStep_effective h]

/-- A counter asserts in a step where its TICK wraps and the wrap asserts (60_exceptions.md R204, R207, R208). -/
theorem assertsInStep_eq (s : State) (n : CounterId) :
    s.assertsInStep n = (tickWraps n Config.stepCycles (cpuStep s) &&
      wrapAsserts ((cpuStep s).counterOf n).mode ((cpuStep s).oneshotFired n)) :=
  Bool.and_assoc _ _ _

end Sys2Proof.Machine

/-! SUPPORT. The CPU's step against the host's operations of the same names (43_system.md R177). -/

namespace Sys2Proof.Machine

/-- Two states hold the same registers and adapter memory. -/
def State.SameSystem (s t : State) : Prop :=
  t.rc = s.rc ∧ t.irq = s.irq

/-- A register operation issued by the host completes, leaves the registers and the adapter's memory the CPU's leaves, and returns the
words the CPU's reads. -/
theorem exec_hostOperation {s u : State} (op : BusOp) (hi : u.sys.initialized = true) (h : s.SameSystem u) :
    ∃ t, exec (BusOp.hostOperation op) u = .next t ∧ t.sys = u.sys ∧ (runBusOp s op).SameSystem t ∧
      (runBusOp s op).cpuReads = s.cpuReads ++ t.result.words := by
  obtain ⟨hrc, hirq⟩ := h
  have hcounter := counterOf_congr hrc
  cases op with
  | readCounter n | readMode n | readTarget n =>
    exact ⟨_, requireCounter_initialized hi _, rfl, ⟨hrc, hirq⟩, by rw [hcounter]; rfl⟩
  | writeMode n value =>
    refine ⟨_, exec_of_completes (.writeMode n value hi), rfl, ⟨?_, ?_⟩, (List.append_nil _).symm⟩
    · simp [runBusOp, busWriteMode, hcounter, hrc]
    · simp [runBusOp, busWriteMode, hirq]
  | writeTarget n value =>
    refine ⟨_, exec_of_completes (.writeTarget n value hi), rfl, ⟨?_, hirq⟩, (List.append_nil _).symm⟩
    simp [runBusOp, busWriteTarget, hcounter, hrc]

/-- The CPU's register operations of a step do what the host's do one after the other. -/
theorem runAsHost_runBusOps {s u : State} (ops : List BusOp) (hi : u.sys.initialized = true) (h : s.SameSystem u) :
    ∃ t reads, runAsHost ops u = some (t, reads) ∧ (runBusOps ops s).SameSystem t ∧
      (runBusOps ops s).cpuReads = s.cpuReads ++ reads := by
  induction ops generalizing s u with
  | nil => exact ⟨u, [], rfl, h, (List.append_nil _).symm⟩
  | cons op ops ih =>
    obtain ⟨v, hexec, hsys, hsame, hread⟩ := exec_hostOperation op hi h
    obtain ⟨t, reads, hrun, hsame', hreads⟩ := ih (by rw [hsys]; exact hi) hsame
    refine ⟨t, v.result.words ++ reads, by simp [runAsHost, hexec, hrun], hsame', ?_⟩
    rw [runBusOps, hreads, hread, List.append_assoc]

theorem cpuStep_listed {s : State} {ops : List BusOp} {rest : List (List BusOp)} (h : s.inputs.cpuSteps = ops :: rest) :
    cpuStep s = runBusOps ops (s.setCpuSteps rest) := by
  simp [cpuStep, h]

end Sys2Proof.Machine

/-! The statements about SYS_STEP. -/

namespace Sys2Proof.Machine

/-- Settles O47: each counter's part of the step is its own, and the laws of that part are the statement's three equations. -/
theorem sysStepTicksEveryCounterOnce : Obligations.SysStepTicksEveryCounterOnce := by
  intro s n
  change if stepEffective s then _ else _
  split
  next he =>
    obtain ⟨-, hfired, hline⟩ := counterView_eq_iff.mp (counterView_sysStep he n)
    rw [hfired, hline, assertsInStep_eq]
    refine ⟨?_, oneshotFired_tickWithAdapter_same n _, ?_⟩
    · rw [counterOf_sysStep he, ← tickRegisters_target ((cpuStep s).counterOf n) 1]
      rfl
    · rw [lineLevel_tickWithAdapter]
      simp only [true_and, Bool.and_eq_true, and_assoc]
      rfl
  next he => exact sysStep_idle (eq_false_of_ne_true he)

/-- A read of the count and then a write of the target: the read sees the count as the step found it (R59, R242). -/
theorem cpuStep_readCounter_writeTarget {s : State} {n : CounterId} {v : Word} {rest : List (List BusOp)}
    (h : s.inputs.cpuSteps = [.readCounter n, .writeTarget n v] :: rest) :
    (cpuStep s).counterOf n = { s.counterOf n with target := targetOperand v } ∧
      (cpuStep s).cpuReads = s.cpuReads ++ [(s.counterOf n).counter] := by
  rw [cpuStep_listed h]
  exact ⟨counterOf_busWriteTarget_same n v _, rfl⟩

/-- Settles O48: the CPU's operations agree with the host's one by one, and the ticks act on the registers they leave. -/
theorem cpuOperationsPrecedeTheTicks : Obligations.CpuOperationsPrecedeTheTicks := by
  refine ⟨fun s ops rest hi hops => ?_, fun s n v rest hi hr hops => ?_⟩
  · obtain ⟨t, reads, hrun, ⟨hrc, hirq⟩, hreads⟩ := runAsHost_runBusOps (s := s.setCpuSteps rest) ops hi ⟨rfl, rfl⟩
    have hcpu : cpuStep s =
        { s with
          rc := t.rc, irq := t.irq, cpuReads := s.cpuReads ++ reads, inputs := { s.inputs with cpuSteps := rest } } := by
      rw [cpuStep_listed hops, runBusOps_frame, ← hrc, ← hirq, hreads]
      rfl
    refine ⟨t, reads, hrun, hcpu, fun hr => ?_⟩
    have he := stepEffective_of_running hi hr
    refine ⟨fun n => ?_, ?_⟩
    · have hleft : (cpuStep s).counterOf n = t.counterOf n := counterOf_congr (by rw [hcpu]) n
      rw [counterOf_sysStep he, hleft]
      exact ⟨rfl, tickRegisters_target _ _⟩
    · obtain ⟨hinputs, hcpuReads⟩ := sysStep_inputs_cpuReads he
      rw [hinputs, hcpuReads, hcpu]
      exact ⟨rfl, rfl⟩
  · have he := stepEffective_of_running hi hr
    obtain ⟨hleft, hread⟩ := cpuStep_readCounter_writeTarget hops
    obtain ⟨hinputs, hcpuReads⟩ := sysStep_inputs_cpuReads he
    rw [counterOf_sysStep he, hleft]
    refine ⟨hcpuReads.trans hread, tickRegisters_target _ _, fun hen hreset hv => ?_, ?_⟩
    · have hlimit : wrapLimit (s.counterOf n).mode (targetOperand v) = v.toNat % 65536 := by
        rw [← targetOperand_toNat]
        exact if_pos hreset
      rw [tickRegisters_of_ge]
      · exact hen
      · exact hlimit.trans_le hv
    · rw [hinputs, cpuStep_frame, hops]
      rfl

end Sys2Proof.Machine

/-! The lifecycle of the System (43_system.md R170 to R174). -/

namespace Sys2Proof.Machine

/-- Settles O42: every register, latch and line level is constructed alike, as a zero. -/
theorem sysInitConstructs : Obligations.SysInitConstructs := by
  refine ⟨rfl, fun s hi => ⟨_, exec_of_completes (.sysInit hi), rfl, fun n => ?_, rfl, rfl⟩, fun s hi => ?_⟩
  · cases n <;> exact ⟨rfl, rfl, rfl, rfl, rfl⟩
  · simp [exec, execSysInit, hi]

/-- Settles O43: the guard of SYS_RUN asks for an initialized System and not for a stopped one. -/
theorem sysRunSetsRunning : Obligations.SysRunSetsRunning := by
  refine ⟨rfl, fun s hi => exec_of_completes (.sysRun hi), fun s hi => ?_⟩
  simp [exec, execSysRun, hi]

/-- Settles O44: SYS_STOP has no guard, and the flag it clears is clear the second time. -/
theorem sysStopIsIdempotent : Obligations.SysStopIsIdempotent :=
  ⟨rfl, fun _ => ⟨_, exec_of_completes .sysStop, rfl, exec_of_completes .sysStop⟩⟩

/-- Settles O45: whether it destroys or finds nothing to destroy, SYS_DEINIT leaves a System not initialized, where the guard of R153
refuses and a second SYS_DEINIT finds nothing. -/
theorem sysDeinitReleasesOnce : Obligations.SysDeinitReleasesOnce := by
  refine ⟨rfl, fun s => ?_⟩
  cases hi : s.sys.initialized with
  | true =>
    exact ⟨_, exec_of_completes (.sysDeinit hi), rfl, rfl, fun _ => rfl, fun h => absurd h (by decide),
      fun i n hn => counterOperationsNeedTheSystem i n _ hn rfl, exec_of_completes (.sysDeinitAbsent rfl)⟩
  | false =>
    exact ⟨_, exec_of_completes (.sysDeinitAbsent hi), rfl, hi, fun h => absurd h (by decide), fun _ => rfl,
      fun i n hn => counterOperationsNeedTheSystem i n _ hn hi, exec_of_completes (.sysDeinitAbsent hi)⟩

/-- Settles O46: the operation reads nothing of the state and answers the refusal. -/
theorem hostSysStepIsRefused : Obligations.HostSysStepIsRefused :=
  fun _ => rfl

end Sys2Proof.Machine

/-! The InterruptAdapter (60_exceptions.md R205 to R212). -/

namespace Sys2Proof.Machine

/-- Settles O49: the laws of the adapter, read at the bits of the mode word. -/
theorem adapterFollowsThePolicy : Obligations.AdapterFollowsThePolicy := by
  intro s n m worthy asserts t
  have hmode : (t.counterOf n).mode = adapterMode m (s.oneshotFired n) := by simp [t, m]
  have hasserts : asserts = wrapAsserts m (s.oneshotFired n) := rfl
  refine ⟨adapterOnWrap_frame n s, ?_, ?_, ?_, ?_, fun i h10 h11 h12 => ?_, oneshotFired_adapterOnWrap_same n s, ?_,
    fun k hk => ⟨counterOf_adapterOnWrap_ne n s hk, oneshotFired_adapterOnWrap_ne n s hk, ?_⟩, trace_adapterOnWrap n s⟩
  · rw [hmode]
    exact counterOf_adapterOnWrap_same n s
  · rw [hmode, getLsbD_adapterMode]
    rfl
  · rw [hmode, getLsbD_adapterMode]
    rfl
  · rw [hmode, getLsbD_adapterMode]
    rfl
  · simp [hmode, getLsbD_adapterMode, h10, h11, h12]
  · simp [t, lineLevel_adapterOnWrap, hasserts, m, modeIrqpulse]
  · simp [t, lineLevel_adapterOnWrap, hk]

end Sys2Proof.Machine

/-! The interrupt events of one SYS_STEP (R204, R215). -/

namespace Sys2Proof.Machine

/-- One counter's part of an effective step, on any state that holds the counter as the CPU's step left it: its event where it
asserts, and no other. -/
theorem trace_tickWithAdapter_step {n : CounterId} {s t : State} (h : t.counterView n = (cpuStep s).counterView n) :
    (tickWithAdapter n t).trace = t.trace ++ (if s.assertsInStep n then [s.eventInStep n] else []) := by
  obtain ⟨hcounter, hfired, hline⟩ := counterView_eq_iff.mp h
  have hwraps : tickWraps n Config.stepCycles t = tickWraps n Config.stepCycles (cpuStep s) := by simp only [tickWraps, hcounter]
  have hevent : irqEvent n t = s.eventInStep n := by
    rw [irqEvent, hcounter, hline]
    rfl
  rw [trace_tickWithAdapter, hwraps, hevent, hcounter, hfired, assertsInStep_eq]

/-- Each counter's part finds its counter as the CPU's step left it, and appends that counter's event or none. -/
theorem trace_sysStep {s : State} (h : stepEffective s = true) :
    (sysStep s).trace = s.trace ++ ([.c0, .c1, .c2].filter s.assertsInStep).map s.eventInStep := by
  have h1 : (tickWithAdapter .c0 (cpuStep s)).counterView .c1 = (cpuStep s).counterView .c1 :=
    counterView_tickWithAdapter_ne .c0 _ (by decide)
  have h2 : (tickWithAdapter .c1 (tickWithAdapter .c0 (cpuStep s))).counterView .c2 = (cpuStep s).counterView .c2 := by
    rw [counterView_tickWithAdapter_ne .c1 _ (by decide), counterView_tickWithAdapter_ne .c0 _ (by decide)]
  rw [sysStep_effective h, trace_tickWithAdapter_step h2, trace_tickWithAdapter_step h1,
    trace_tickWithAdapter_step rfl, cpuStep_trace]
  simp only [List.append_assoc, List.filter_cons, List.filter_nil]
  congr 1
  cases s.assertsInStep .c0 <;> cases s.assertsInStep .c1 <;> cases s.assertsInStep .c2 <;> rfl

/-- Settles O50: the step of an initialized and running System is effective. -/
theorem oneStepEventsAreInIndexOrder : Obligations.OneStepEventsAreInIndexOrder :=
  fun _ hi hr => trace_sysStep (stepEffective_of_running hi hr)

end Sys2Proof.Machine

/-! SUPPORT. A one-shot counter along a run: its one-shot latch, once set, is the record of its one event (R208, R209). -/

namespace Sys2Proof.Machine

/-! The events of one counter. -/

@[simp] theorem irqEventsOf_append (n : CounterId) (l l' : List Event) :
    irqEventsOf n (l ++ l') = irqEventsOf n l ++ irqEventsOf n l' :=
  List.filter_append l l'

@[simp] theorem irqCounter_eventInStep (s : State) (n : CounterId) : (s.eventInStep n).irqCounter = some n := by
  unfold State.eventInStep
  split <;> rfl

/-- Of the events of one step, a counter has its own where it asserts. -/
theorem irqEventsOf_step (s : State) (n : CounterId) :
    irqEventsOf n (([.c0, .c1, .c2].filter s.assertsInStep).map s.eventInStep) =
      if s.assertsInStep n then [s.eventInStep n] else [] := by
  have hown : (fun e : Event => e.irqCounter == some n) ∘ s.eventInStep = fun k => k == n := by
    funext k
    simp
  rw [irqEventsOf, List.filter_map, hown, List.filter_filter]
  cases n <;> simp [List.filter_cons] <;> split <;> rfl

/-- Render and FPS pacing give no interrupt event (41_scheduler.md R117, R118). -/
theorem irqEventsOf_pacingEvents (n : CounterId) (s : State) (v : HostTicks) : irqEventsOf n (s.pacingEvents v) = [] := by
  unfold State.pacingEvents
  rw [irqEventsOf_append]
  split <;> split <;> rfl

/-- An effective SYS_STEP sets the one-shot latch of a counter that asserts, and clears none. -/
theorem oneshotFired_sysStep {s : State} (h : stepEffective s = true) (n : CounterId) :
    (sysStep s).oneshotFired n = (s.assertsInStep n || (cpuStep s).oneshotFired n) := by
  obtain ⟨-, hfired, -⟩ := counterView_eq_iff.mp (counterView_sysStep h n)
  rw [hfired, oneshotFired_tickWithAdapter_same, assertsInStep_eq]

/-- A counter with `irqrepeat` 0 asserts only where it has not fired (R208). -/
theorem not_fired_of_assertsInStep {s : State} {n : CounterId} (hrepeat : ((cpuStep s).counterOf n).mode.getLsbD 6 = false)
    (ha : s.assertsInStep n = true) : (cpuStep s).oneshotFired n = false := by
  unfold State.assertsInStep at ha
  simp only [hrepeat, Bool.false_or, Bool.and_eq_true, Bool.not_eq_true'] at ha
  exact ha.2

/-- Operations issued one after the other complete one by one. -/
theorem execAll_cons_next {i : Instr} {is : List Instr} {s t : State} (h : execAll (i :: is) s = .next t) :
    ∃ u, exec i s = .next u ∧ execAll is u = .next t := by
  unfold execAll at h
  split at h
  next u hu => exact ⟨u, hu, h⟩
  · cases h
  · cases h

/-! What keeps a counter's mode word and its one-shot latch. -/

/-- TICK keeps every mode word (42_rootcounter.md R149). -/
theorem mode_tickCounter (n k : CounterId) (cycles : Word) (s : State) :
    ((tickCounter k cycles s).counterOf n).mode = (s.counterOf n).mode := by
  by_cases hn : n = k
  · rw [hn, counterOf_tickCounter_same, tickRegisters_mode]
  · rw [counterOf_tickCounter_ne s cycles hn]

/-- WRITE_TARGET keeps every mode word (R144). -/
theorem mode_busWriteTarget (n k : CounterId) (value : Word) (s : State) :
    ((busWriteTarget k value s).counterOf n).mode = (s.counterOf n).mode := by
  by_cases hn : n = k
  · rw [hn, counterOf_busWriteTarget_same]
  · rw [counterOf_busWriteTarget_ne value s hn]

/-- A WRITE_MODE of another counter keeps the one-shot latch. -/
theorem oneshotFired_busWriteMode_ne {n k : CounterId} (value : Word) (s : State) (h : n ≠ k) :
    (busWriteMode k value s).oneshotFired n = s.oneshotFired n :=
  oneshotFired_setOneshotFired_ne _ false h

/-- The CPU's register operations keep the mode word and the one-shot latch of a counter whose mode word they do not write. -/
theorem runBusOps_keeps_of_noModeWrite {n : CounterId} {ops : List BusOp} (h : noModeWrite n ops) (s : State) :
    ((runBusOps ops s).counterOf n).mode = (s.counterOf n).mode ∧ (runBusOps ops s).oneshotFired n = s.oneshotFired n := by
  induction ops generalizing s with
  | nil => exact ⟨rfl, rfl⟩
  | cons op ops ih =>
    obtain ⟨hmode, hfired⟩ := ih (fun v hv => h v (List.mem_cons_of_mem op hv)) (runBusOp s op)
    rw [runBusOps, hmode, hfired]
    cases op with
    | readCounter k | readMode k | readTarget k => exact ⟨rfl, rfl⟩
    | writeTarget k value => exact ⟨mode_busWriteTarget n k value s, rfl⟩
    | writeMode k value =>
      have hn : n ≠ k := fun e => h value (e ▸ List.mem_cons_self)
      exact ⟨congrArg RootCounter.mode (counterOf_busWriteMode_ne value s hn), oneshotFired_busWriteMode_ne value s hn⟩

theorem cpuStep_keeps_of_noModeWrite {n : CounterId} {s : State} (h : ∀ ops ∈ s.inputs.cpuSteps, noModeWrite n ops) :
    ((cpuStep s).counterOf n).mode = (s.counterOf n).mode ∧ (cpuStep s).oneshotFired n = s.oneshotFired n := by
  cases hops : s.inputs.cpuSteps with
  | nil =>
    rw [cpuStep, hops]
    exact ⟨rfl, rfl⟩
  | cons ops rest =>
    rw [cpuStep_listed hops]
    exact runBusOps_keeps_of_noModeWrite (h ops (hops ▸ List.mem_cons_self)) (s.setCpuSteps rest)

/-! The run. -/

/-- A run from `s` to `t` along which counter `n` stays one-shot: in `t` its `irqrepeat` is 0 and the CPU will not write its mode word,
and of the events since `s` it has one where its one-shot latch went from clear to set, and none otherwise. -/
structure OneShotRun (n : CounterId) (s t : State) : Prop where
  irqrepeat : (t.counterOf n).mode.getLsbD 6 = false
  cpuKeeps : ∀ ops ∈ t.inputs.cpuSteps, noModeWrite n ops
  spends : ∃ events, t.trace = s.trace ++ events ∧
    (s.oneshotFired n).toNat + (irqEventsOf n events).length = (t.oneshotFired n).toNat

namespace OneShotRun

variable {n : CounterId} {s t u : State}

theorem refl (hrepeat : (s.counterOf n).mode.getLsbD 6 = false) (hcpu : ∀ ops ∈ s.inputs.cpuSteps, noModeWrite n ops) :
    OneShotRun n s s :=
  ⟨hrepeat, hcpu, [], (List.append_nil _).symm, rfl⟩

/-- A run goes on where its next events are accounted for by the latch. -/
theorem extend (h : OneShotRun n s t) (hrepeat : (u.counterOf n).mode.getLsbD 6 = false)
    (hcpu : ∀ ops ∈ u.inputs.cpuSteps, noModeWrite n ops) {events : List Event} (htrace : u.trace = t.trace ++ events)
    (hspent : (t.oneshotFired n).toNat + (irqEventsOf n events).length = (u.oneshotFired n).toNat) : OneShotRun n s u := by
  obtain ⟨before, hbefore, hfired⟩ := h.spends
  refine ⟨hrepeat, hcpu, before ++ events, by rw [htrace, hbefore, List.append_assoc], ?_⟩
  rw [irqEventsOf_append, List.length_append]
  omega

/-- The latch accounts for at most one event, and for none where it was set before. -/
theorem atMostOnce (h : OneShotRun n s t) :
    ∃ events, t.trace = s.trace ++ events ∧ (irqEventsOf n events).length ≤ (if s.oneshotFired n then 0 else 1) := by
  obtain ⟨events, htrace, hspent⟩ := h.spends
  have hlatch : (t.oneshotFired n).toNat ≤ 1 := Bool.toNat_le _
  refine ⟨events, htrace, ?_⟩
  cases hs : s.oneshotFired n with
  | false =>
    rw [hs, Bool.toNat_false, Nat.zero_add] at hspent
    exact hspent.trans_le hlatch
  | true =>
    rw [hs, Bool.toNat_true] at hspent
    exact Nat.le_of_add_le_add_left (hspent.trans_le hlatch)

/-- SYS_STEP asserts a one-shot counter only where its latch is clear, and sets it then. -/
theorem after_sysStep (h : OneShotRun n s t) : OneShotRun n s (sysStep t) := by
  cases he : stepEffective t with
  | false => rwa [sysStep_idle he]
  | true =>
    obtain ⟨hmode, hkept⟩ := cpuStep_keeps_of_noModeWrite h.cpuKeeps
    obtain ⟨hinputs, -⟩ := sysStep_inputs_cpuReads he
    refine h.extend ?_ (fun ops hops => ?_) (trace_sysStep he) ?_
    · rw [counterOf_sysStep he]
      dsimp only
      split
      · simp only [getLsbD_adapterMode, hmode]
        exact h.irqrepeat
      · rw [hmode]
        exact h.irqrepeat
    · rw [hinputs, cpuStep_frame] at hops
      exact h.cpuKeeps ops (List.mem_of_mem_tail hops)
    · rw [irqEventsOf_step, oneshotFired_sysStep he, ← hkept]
      cases ha : t.assertsInStep n with
      | false => simp
      | true => simp [not_fired_of_assertsInStep (hmode ▸ h.irqrepeat) ha]

theorem after_drainOnce (h : OneShotRun n s t) : OneShotRun n s (drainOnce t) :=
  ⟨h.after_sysStep.irqrepeat, h.after_sysStep.cpuKeeps, h.after_sysStep.spends⟩

theorem after_schedCall (h : OneShotRun n s t) (v : HostTicks) : OneShotRun n s (schedCall v t) := by
  have hdrained : OneShotRun n s (schedDrain (schedAccumulate (t.spanOfCall v) (schedSample v t))).1 :=
    drainLoop_induction (P := OneShotRun n s) (fun _ _ hu => hu.after_drainOnce) _ _ ⟨h.irqrepeat, h.cpuKeeps, h.spends⟩
  have hsystem : OneShotRun n s (t.drained v) := ⟨hdrained.irqrepeat, hdrained.cpuKeeps, hdrained.spends⟩
  obtain ⟨hrc, hirq, -, hinputs⟩ := schedCall_system t v
  refine hsystem.extend ?_ ?_ (schedCall_trace t v) ?_
  · rw [counterOf_congr hrc]
    exact hsystem.irqrepeat
  · rw [hinputs]
    exact hsystem.cpuKeeps
  · rw [oneshotFired_congr hirq, irqEventsOf_pacingEvents]
    rfl

/-- A completing operation that leaves the mode word alone keeps a counter one-shot; SYS_DEINIT leaves the word 0. -/
theorem after_completes {i : Instr} (h : OneShotRun n s t) (hi : keepsModeWord n i) (hc : Completes i t u) :
    OneShotRun n s u := by
  obtain ⟨hrepeat, hcpu, hspends⟩ := h
  obtain ⟨hmode, hinit⟩ := hi
  cases hc with
  | readCounter | readMode | readTarget | clkCalibrate | sysRun | sysStop | sysDeinitAbsent => exact ⟨hrepeat, hcpu, hspends⟩
  | writeMode k value _ =>
    have hn : n ≠ k := fun e => hmode value (e ▸ rfl)
    refine ⟨?_, hcpu, ?_⟩
    · rw [counterOf_setResult, counterOf_busWriteMode_ne value t hn]
      exact hrepeat
    · rw [← oneshotFired_busWriteMode_ne value t hn] at hspends
      exact hspends
  | writeTarget k value _ =>
    exact ⟨by rwa [counterOf_setResult, mode_busWriteTarget], hcpu, hspends⟩
  | tick k cycles _ =>
    exact ⟨by rwa [counterOf_setResult, mode_tickCounter], hcpu, hspends⟩
  | clkRead hd | schedInit _ _ hd =>
    obtain ⟨-, rest, rfl⟩ := drawHostClock_some hd
    exact ⟨hrepeat, hcpu, hspends⟩
  | @schedStep _ _ v _ hd =>
    obtain ⟨-, rest, rfl⟩ := drawHostClock_some hd
    have hcall := after_schedCall (t := t.takeSample v rest) ⟨hrepeat, hcpu, hspends⟩ v
    exact ⟨hcall.irqrepeat, hcall.cpuKeeps, hcall.spends⟩
  | sysInit => exact absurd rfl hinit
  | sysDeinit =>
    refine ⟨?_, hcpu, hspends⟩
    rw [counterOf_setResult, counterOf_eq]
    simp [destroyCounters, RootCounter.absent]

theorem after_execAll {is : List Instr} (h : OneShotRun n s t) (his : ∀ i ∈ is, keepsModeWord n i)
    (hu : execAll is t = .next u) : OneShotRun n s u := by
  induction is generalizing t with
  | nil =>
    cases hu
    exact h
  | cons i is ih =>
    obtain ⟨v, hv, hrest⟩ := execAll_cons_next hu
    exact ih (h.after_completes (his i List.mem_cons_self) (completes_of_exec hv))
      (fun j hj => his j (List.mem_cons_of_mem i hj)) hrest

end OneShotRun

/-- Settles O51: the latch, which only the operations left out clear, accounts for every event of the counter. -/
theorem oneShotAssertsAtMostOnce : Obligations.OneShotAssertsAtMostOnce := by
  intro s n hrepeat hcpu
  have hstart := OneShotRun.refl hrepeat hcpu
  exact ⟨fun is t his ht => (hstart.after_execAll his ht).atMostOnce,
    fun k => (Function.Iterate.rec (OneShotRun n s) hstart (fun _ ht => ht.after_sysStep) k).atMostOnce⟩

end Sys2Proof.Machine

/-! The start of a run, and a target written below the count (70_reset_and_hazards.md R235, R238). -/

namespace Sys2Proof.Machine

/-- Settles O10: the reset state is written out, and each clause names one of its fields. -/
theorem startOfARun : Obligations.StartOfARun :=
  ⟨rfl, rfl, rfl, rfl, rfl, rfl, rfl, rfl⟩

/-- A running counter at or above its limit wraps at any TICK: the sum is no less than the count. -/
theorem tickRegisters_of_limit_le {c : RootCounter} (he : modeEn c.mode = false)
    (hl : wrapLimit c.mode c.target ≤ c.counter.toNat) (cycles : Word) :
    tickRegisters c cycles = ({ c with counter := 0 }, true) :=
  tickRegisters_of_ge he (hl.trans (Nat.le_add_right _ _))

/-- Settles O27: WRITE_TARGET moves the limit to or below the counter, and leaves the counter for the TICK to wrap. -/
theorem loweredTargetWrapsAtNextTick : Obligations.LoweredTargetWrapsAtNextTick := by
  intro s n v cycles hi hen hreset hv
  have hlimit : wrapLimit (s.counterOf n).mode (targetOperand v) = v.toNat % 65536 :=
    (if_pos hreset).trans (targetOperand_toNat v)
  have hwrap := tickRegisters_of_limit_le (c := { s.counterOf n with target := targetOperand v }) hen
    (hlimit.trans_le hv) cycles
  refine ⟨_, _, exec_of_completes (.writeTarget n v hi), ?_, exec_tick n cycles hi, ?_, ?_⟩
  · rw [counterOf_setResult, counterOf_busWriteTarget_same]
  · rw [counterOf_ticked_same, counterOf_setResult, counterOf_busWriteTarget_same, hwrap]
  · rw [ticked_result, counterOf_setResult, counterOf_busWriteTarget_same, hwrap]

end Sys2Proof.Machine

/-! SUPPORT. SYS_STEP with a CPU that only reads (43_system.md R177): the CPU's step leaves the registers as it finds them. -/

namespace Sys2Proof.Machine

/-- The CPU only reads in the steps the state lists. -/
def State.CpuOnlyReads (s : State) : Prop :=
  ∀ ops ∈ s.inputs.cpuSteps, ∀ op ∈ ops, BusOp.isRead op = true

/-- Reads leave every register. -/
theorem runBusOps_rc_of_reads {ops : List BusOp} (h : ∀ op ∈ ops, BusOp.isRead op = true) (s : State) :
    (runBusOps ops s).rc = s.rc := by
  induction ops generalizing s with
  | nil => rfl
  | cons op ops ih =>
    rw [runBusOps, ih (fun o ho => h o (List.mem_cons_of_mem op ho))]
    cases op with
    | readCounter n | readMode n | readTarget n => rfl
    | writeMode n value | writeTarget n value => exact absurd (h _ List.mem_cons_self) (by simp [BusOp.isRead])

theorem counterOf_cpuStep_of_onlyReads {s : State} (h : s.CpuOnlyReads) (n : CounterId) :
    (cpuStep s).counterOf n = s.counterOf n := by
  refine counterOf_congr ?_ n
  cases hops : s.inputs.cpuSteps with
  | nil => rw [cpuStep, hops]
  | cons ops rest =>
    rw [cpuStep_listed hops]
    exact runBusOps_rc_of_reads (h ops (hops ▸ List.mem_cons_self)) (s.setCpuSteps rest)

/-- An effective SYS_STEP takes the first of the CPU's steps, and the others are reads as before. -/
theorem cpuOnlyReads_sysStep {s : State} (he : stepEffective s = true) (h : s.CpuOnlyReads) : (sysStep s).CpuOnlyReads := by
  intro ops hops
  obtain ⟨hinputs, -⟩ := sysStep_inputs_cpuReads he
  rw [hinputs, cpuStep_frame] at hops
  exact h ops (List.mem_of_mem_tail hops)

end Sys2Proof.Machine

/-! A fresh System counts freely (70_reset_and_hazards.md R236). -/

namespace Sys2Proof.Machine

/-- The mode word of a Free-run counter without interrupt enables after `k` cycles: latched once it has wrapped (R212). -/
def freeMode (k : Nat) : Word :=
  if 65535 ≤ k then 0x1000 else 0

/-- The registers of such a counter `k` cycles after its construction. -/
def freeCounter (k : Nat) : RootCounter :=
  { constructedCounter with mode := freeMode k }.atCount (k % 65535)

theorem freeMode_cases (k : Nat) : freeMode k = 0x1000 ∨ freeMode k = 0 :=
  ite_eq_or_eq _ _ _

/-- Its limit is 0xFFFF (42_rootcounter.md R147). -/
theorem wrapLimit_freeMode (k : Nat) (target : Word) : wrapLimit (freeMode k) target = 65535 := by
  rcases freeMode_cases k with h | h <;> rw [h] <;> rfl

theorem modeEn_freeMode (k : Nat) : modeEn (freeMode k) = false := by
  rcases freeMode_cases k with h | h <;> rw [h] <;> rfl

/-- No wrap asserts: `irq_0xffff` is 0 (60_exceptions.md R207). -/
theorem wrapAsserts_freeMode (k : Nat) (fired : Bool) : wrapAsserts (freeMode k) fired = false := by
  rcases freeMode_cases k with h | h <;> rw [h] <;> rfl

/-- A wrap sets `reached_0xffff` and no other bit (R205, R212). -/
theorem adapterMode_freeMode (k : Nat) (fired : Bool) : adapterMode (freeMode k) fired = 0x1000 := by
  rw [adapterMode, wrapAsserts_freeMode]
  rcases freeMode_cases k with h | h <;> rw [h] <;> rfl

/-- One cycle of such a counter: its TICK counts on or, at 0xFFFE, wraps, and the adapter latches the wrap. -/
theorem freeCounter_succ (k : Nat) (fired : Bool) :
    { (tickRegisters (freeCounter k) Config.stepCycles).1 with
      mode := if (tickRegisters (freeCounter k) Config.stepCycles).2 then adapterMode (freeMode k) fired else freeMode k } =
      freeCounter (k + 1) := by
  have hlimit := wrapLimit_freeMode k 0
  rcases Nat.lt_or_ge (k % 65535 + 1) 65535 with hk | hk
  · have htick : tickRegisters (freeCounter k) 1 = _ :=
      tickRegisters_atCount_of_lt (modeEn_freeMode k) (hk.trans_eq hlimit.symm)
    have hcount : (k + 1) % 65535 = k % 65535 + 1 := by omega
    have hmode : freeMode (k + 1) = freeMode k := if_congr (by omega) rfl rfl
    rw [Config.stepCycles, htick, freeCounter, hcount, hmode]
    rfl
  · have hwrap : k % 65535 + 1 = 65535 := by omega
    have htick : tickRegisters (freeCounter k) 1 = _ :=
      tickRegisters_atCount_of_eq (modeEn_freeMode k) (hwrap.trans hlimit.symm)
    have hcount : (k + 1) % 65535 = 0 := by omega
    have hmode : freeMode (k + 1) = 0x1000 := if_pos (by omega)
    rw [Config.stepCycles, htick, freeCounter, hcount, hmode, adapterMode_freeMode]
    rfl

/-- A running System `k` SYS_STEPs after its construction, with a CPU that only reads and the events `trace` of before. -/
structure FreeRun (trace : List Event) (k : Nat) (s : State) : Prop where
  effective : stepEffective s = true
  onlyReads : s.CpuOnlyReads
  counters : ∀ n, s.counterOf n = freeCounter k
  events : s.trace = trace

/-- The next SYS_STEP counts one cycle in every counter and asserts none. -/
theorem FreeRun.after_sysStep {trace : List Event} {k : Nat} {s : State} (h : FreeRun trace k s) :
    FreeRun trace (k + 1) (sysStep s) := by
  have hleft (n : CounterId) : (cpuStep s).counterOf n = freeCounter k :=
    (counterOf_cpuStep_of_onlyReads h.onlyReads n).trans (h.counters n)
  have hquiet (n : CounterId) : s.assertsInStep n = false := by
    rw [assertsInStep_eq, hleft]
    exact (congrArg _ (wrapAsserts_freeMode k _)).trans (Bool.and_false _)
  refine ⟨?_, cpuOnlyReads_sysStep h.effective h.onlyReads, fun n => ?_, ?_⟩
  · rw [stepEffective, sysStep_sys]
    exact h.effective
  · rw [counterOf_sysStep h.effective, tickWraps, hleft]
    exact freeCounter_succ k _
  · simp [trace_sysStep h.effective, hquiet, h.events]

/-- SYS_INIT constructs every counter at 0, and SYS_RUN lets the System run (43_system.md R170, R171). -/
theorem freeRun_zero {s t u : State} (hreads : s.CpuOnlyReads) (ht : Completes .sysInit s t) (hu : Completes .sysRun t u) :
    FreeRun s.trace 0 u := by
  cases ht
  cases hu
  exact ⟨rfl, hreads, fun n => perGet_replicate _ n, rfl⟩

theorem FreeRun.iterate {trace : List Event} {s : State} (h : FreeRun trace 0 s) (k : Nat) :
    FreeRun trace k (sysStep^[k] s) := by
  induction k with
  | zero => exact h
  | succ k ih =>
    rw [Function.iterate_succ_apply']
    exact ih.after_sysStep

/-- Settles O52: the run from SYS_INIT and SYS_RUN is a free run, and its counters read as the statement says. -/
theorem freshSystemCountsFreely : Obligations.FreshSystemCountsFreely := by
  intro s hi hreads
  obtain ⟨t, hinit, hinitialized⟩ : ∃ t, Completes .sysInit s t ∧ t.sys.initialized = true := ⟨_, .sysInit hi, rfl⟩
  have hrun := Completes.sysRun hinitialized
  refine ⟨t, _, exec_of_completes hinit, exec_of_completes hrun, fun k n => ?_⟩
  obtain ⟨-, -, hcounters, htrace⟩ := (freeRun_zero hreads hinit hrun).iterate k
  have hword : k % 65535 < 2 ^ 32 := by omega
  rw [hcounters n]
  exact ⟨(BitVec.toNat_ofNat _ _).trans (Nat.mod_eq_of_lt hword), rfl, htrace⟩

end Sys2Proof.Machine
